-- ==== Sys2Proof/Word.lean ====
section
/-! DEFINITION. The fixed-width values the block reads and drives: bytes, 32-bit words, nibbles (R7, R8 of
00_scope.md). Bit 0 is the least significant bit. Every value is unsigned (R8). -/

namespace Sys2Proof

/-- A byte: one MIDI 1.0 byte, one negotiation byte (R23, R24, R25). -/
abbrev Byte := BitVec 8

/-- A 32-bit word value; inside the block a packet word is a number, not four bytes (R43). -/
abbrev Word := BitVec 32

/-- Four bits (R8). -/
abbrev Nibble := BitVec 4

/-- The sixteen values of a nibble, by name, so that a table on a nibble can list each of its codes with no
default arm (R13). -/
inductive Hex where
  | x0 | x1 | x2 | x3 | x4 | x5 | x6 | x7 | x8 | x9 | xA | xB | xC | xD | xE | xF
  deriving DecidableEq, Repr

end Sys2Proof
end

