-- ==== Sys2Proof/Config.lean ====
section
/-! DEFINITION. The build-time parameters of the block (R6 of 00_scope.md, R29 of 10_state.md). -/

namespace Sys2Proof

/-- `PKT_WORDS_MAX` = 4: the packet port holds four words (R6, R40). -/
abbrev Config.pktWordsMax : Nat := 4

/-- `NEG_LEN` = 5: the negotiation port holds five bytes (R6, R41). -/
abbrev Config.negLen : Nat := 5

/-- `CHK_WIDTH` = 8: the width of the raw-value port `V` (R6, R22, D7). -/
abbrev Config.chkWidth : Nat := 8

/-- The contents of the raw-value port `V` (R22): `CHK_WIDTH` bits. -/
abbrev RawValue := BitVec 8

/-- `GROUP_MAX`: a natural, 15 or 16 and nothing else (R6, D6, 90_conflicts.md C1). -/
inductive GroupMax where
  /-- The default, the source's §9: "treat 0..=15 as correct". -/
  | max15
  /-- The original software's bound, kept so that its boundary test can be stated. -/
  | max16
  deriving DecidableEq, Repr

/-- The three behaviour switches of R6: constants of the build, which no operation changes (R29, D23). -/
structure Params where
  /-- `GROUP_MAX`, the largest group `GRP.CHK` accepts. -/
  groupMax : GroupMax
  /-- `SYSCOMMON_RESOLVE`: whether `M1.NDB` answers a System Common status byte by the table of R117. -/
  sysCommonResolve : Bool
  /-- `STRICT_EXT_RESERVED`: whether `CI.VAL` also checks bits 7..2 of byte 2 (R136). -/
  strictExtReserved : Bool
  deriving DecidableEq, Repr

/-- The defaults of R6's table. -/
def Params.default : Params :=
  { groupMax := .max15, sysCommonResolve := false, strictExtReserved := false }

end Sys2Proof
end

