-- ==== Sys2Proof/Syntax.lean ====
section
/-! DEFINITION. The instructions: one constructor for each row of spec/opcode_table.json, and the four wire formats
their encodings live in (30_encoding.md R60 to R65, R70, R77).

The rows of format OP are the block's operations and its reserved codes (R70, R71). The rows of the formats UMPW0,
M1BYTE and NEG5 are classes of values that the host presents; as instructions they present such a value
(DESIGN CHOICE, log entry 5; unsafe). -/

namespace Sys2Proof

/-- The `MessageType` tags of R12 and R61; the class "reserved" is a first-class tag, not an error (R72). -/
inductive MessageType where
  | utility | systemRealTimeAndCommon | midi1ChannelVoice | dataInclSystemExclusive | midi2ChannelVoice | data
  | reserved6 | reserved7 | reserved8 | reserved9 | reservedA | reservedB | reservedC | reservedD | reservedE
  | reservedF
  deriving DecidableEq, Repr

/-- The five bytes of a negotiation payload, in payload order (R25, R45, R65). -/
structure Frame where
  /-- Byte 0, `ptype`. -/
  n0 : Byte
  /-- Byte 1, `pver`. -/
  n1 : Byte
  /-- Byte 2, `ext`. -/
  n2 : Byte
  /-- Byte 3, `rsv3`. -/
  n3 : Byte
  /-- Byte 4, `rsv4`. -/
  n4 : Byte
  deriving DecidableEq, Repr

/-- The bits of an instruction in the format they arrive in. The formats have ports of their own (R21 to R26), so a
bit pattern alone does not say its format. -/
inductive Code where
  /-- Format OP: the operation select (R70). -/
  | op (sel : Nibble)
  /-- Format UMPW0: the header word (R60). -/
  | header (w0 : Word)
  /-- Format M1BYTE: one MIDI 1.0 byte (R62). -/
  | byte (b : Byte)
  /-- Format NEG5: the negotiation payload (R65). -/
  | frame (f : Frame)
  deriving DecidableEq, Repr

/-- One constructor per row of spec/opcode_table.json. -/
inductive Instr where
  -- format OP (R70, R71)
  | mtChk | grpChk | umpMt | umpGrp | umpLen | m1Sval | m1Class | m1Ndb | m1Dval | ciPtype | ciPver | ciVal | ciExt
  | opRsvdD | opRsvdE | opRsvdF
  -- format UMPW0 (R60, R61): the `group` field and the `rest` field
  | umpUtility (group : Nibble) (rest : BitVec 24)
  | umpSystemRealTimeAndCommon (group : Nibble) (rest : BitVec 24)
  | umpMidi1ChannelVoice (group : Nibble) (rest : BitVec 24)
  | umpDataInclSystemExclusive (group : Nibble) (rest : BitVec 24)
  | umpMidi2ChannelVoice (group : Nibble) (rest : BitVec 24)
  | umpData (group : Nibble) (rest : BitVec 24)
  | umpReserved6 (group : Nibble) (rest : BitVec 24)
  | umpReserved7 (group : Nibble) (rest : BitVec 24)
  | umpReserved8 (group : Nibble) (rest : BitVec 24)
  | umpReserved9 (group : Nibble) (rest : BitVec 24)
  | umpReservedA (group : Nibble) (rest : BitVec 24)
  | umpReservedB (group : Nibble) (rest : BitVec 24)
  | umpReservedC (group : Nibble) (rest : BitVec 24)
  | umpReservedD (group : Nibble) (rest : BitVec 24)
  | umpReservedE (group : Nibble) (rest : BitVec 24)
  | umpReservedF (group : Nibble) (rest : BitVec 24)
  -- format M1BYTE (R62 to R64): the 7-bit payload of a data byte, the low nibble of a status byte
  | m1Data (payload : BitVec 7)
  | m1NoteOff (low : Nibble)
  | m1NoteOn (low : Nibble)
  | m1PolyphonicKeyPressureOrAftertouch (low : Nibble)
  | m1ControlChangeOrChannelMode (low : Nibble)
  | m1ProgramChange (low : Nibble)
  | m1ChannelPressureOrAftertouch (low : Nibble)
  | m1PitchBendChange (low : Nibble)
  | m1SystemExclusive
  | m1SystemCommonF1 | m1SystemCommonF2 | m1SystemCommonF3 | m1SystemCommonF4 | m1SystemCommonF5 | m1SystemCommonF6
  | m1SystemCommonF7
  | m1SystemRealTime (low : Nibble)
  -- format NEG5 (R65, R66): the extension byte of an accepted frame
  | negMidi1 (ext : Byte)
  | negMidi2 (ext : Byte)
  deriving DecidableEq, Repr

end Sys2Proof
end

