-- ==== Sys2Proof/WellFormed.lean ====
section
/-! DEFINITION. Well-formed instructions: every field lies in the range its row of spec/opcode_table.json gives it.
The types of Syntax.lean already bound every field but one: a real-time status byte has low nibble 0x8 to 0xF
(30_encoding.md R64: "RealTime is exactly SB[3] = 1 within high nibble 0xF"). -/

namespace Sys2Proof

/-- The one check, R64's range of the real-time low nibble. -/
def realTimeLowOk (low : Nibble) : Bool := low.getLsbD 3

/-- Whether every field of the instruction is one its row admits. -/
def Instr.wf : Instr → Bool
  | .mtChk => true
  | .grpChk => true
  | .umpMt => true
  | .umpGrp => true
  | .umpLen => true
  | .m1Sval => true
  | .m1Class => true
  | .m1Ndb => true
  | .m1Dval => true
  | .ciPtype => true
  | .ciPver => true
  | .ciVal => true
  | .ciExt => true
  | .opRsvdD => true
  | .opRsvdE => true
  | .opRsvdF => true
  | .umpUtility _ _ => true
  | .umpSystemRealTimeAndCommon _ _ => true
  | .umpMidi1ChannelVoice _ _ => true
  | .umpDataInclSystemExclusive _ _ => true
  | .umpMidi2ChannelVoice _ _ => true
  | .umpData _ _ => true
  | .umpReserved6 _ _ => true
  | .umpReserved7 _ _ => true
  | .umpReserved8 _ _ => true
  | .umpReserved9 _ _ => true
  | .umpReservedA _ _ => true
  | .umpReservedB _ _ => true
  | .umpReservedC _ _ => true
  | .umpReservedD _ _ => true
  | .umpReservedE _ _ => true
  | .umpReservedF _ _ => true
  | .m1Data _ => true
  | .m1NoteOff _ => true
  | .m1NoteOn _ => true
  | .m1PolyphonicKeyPressureOrAftertouch _ => true
  | .m1ControlChangeOrChannelMode _ => true
  | .m1ProgramChange _ => true
  | .m1ChannelPressureOrAftertouch _ => true
  | .m1PitchBendChange _ => true
  | .m1SystemExclusive => true
  | .m1SystemCommonF1 => true
  | .m1SystemCommonF2 => true
  | .m1SystemCommonF3 => true
  | .m1SystemCommonF4 => true
  | .m1SystemCommonF5 => true
  | .m1SystemCommonF6 => true
  | .m1SystemCommonF7 => true
  | .m1SystemRealTime low => realTimeLowOk low
  | .negMidi1 _ => true
  | .negMidi2 _ => true

end Sys2Proof
end

