-- ==== Sys2Proof/Decode.lean ====
section
/-! DEFINITION. Bit-field access (40_bitfield_wrappers.md R90, R91), the decoder of the four wire formats
(30_encoding.md R60 to R65, R70 to R72), and after it the encoder written from the same tables. -/

namespace Sys2Proof

/-- R90: `bits(v, hi, lo)` is `v[hi:lo]`, of width `hi - lo + 1`. -/
def bits {n : Nat} (v : BitVec n) (hi lo : Nat) : BitVec (hi - lo + 1) := v.extractLsb hi lo

/-- R91: `nib(v, k)` is `bits(v, 4k+3, 4k)`, nibble `k` counted from the least significant end. -/
def nib {n : Nat} (v : BitVec n) (k : Nat) : Nibble := v.extractLsb' (4 * k) 4

/-- R8: `zext_8`, zero high bits. -/
def zext8 {n : Nat} (v : BitVec n) : Byte := v.setWidth 8

/-- A nibble by name: one row for each of the sixteen bit patterns, most significant bit first, no default (R13). -/
def Hex.ofNibble (v : Nibble) : Hex :=
  match v.getLsbD 3, v.getLsbD 2, v.getLsbD 1, v.getLsbD 0 with
  | false, false, false, false => .x0
  | false, false, false, true => .x1
  | false, false, true, false => .x2
  | false, false, true, true => .x3
  | false, true, false, false => .x4
  | false, true, false, true => .x5
  | false, true, true, false => .x6
  | false, true, true, true => .x7
  | true, false, false, false => .x8
  | true, false, false, true => .x9
  | true, false, true, false => .xA
  | true, false, true, true => .xB
  | true, true, false, false => .xC
  | true, true, false, true => .xD
  | true, true, true, false => .xE
  | true, true, true, true => .xF

/-- The nibble a name stands for. -/
def Hex.toNibble : Hex → Nibble
  | .x0 => 0x0#4
  | .x1 => 0x1#4
  | .x2 => 0x2#4
  | .x3 => 0x3#4
  | .x4 => 0x4#4
  | .x5 => 0x5#4
  | .x6 => 0x6#4
  | .x7 => 0x7#4
  | .x8 => 0x8#4
  | .x9 => 0x9#4
  | .xA => 0xA#4
  | .xB => 0xB#4
  | .xC => 0xC#4
  | .xD => 0xD#4
  | .xE => 0xE#4
  | .xF => 0xF#4

/-- R61: the tag of each of the sixteen message type codes. -/
def MessageType.ofCode (c : Nibble) : MessageType :=
  match Hex.ofNibble c with
  | .x0 => .utility
  | .x1 => .systemRealTimeAndCommon
  | .x2 => .midi1ChannelVoice
  | .x3 => .dataInclSystemExclusive
  | .x4 => .midi2ChannelVoice
  | .x5 => .data
  | .x6 => .reserved6
  | .x7 => .reserved7
  | .x8 => .reserved8
  | .x9 => .reserved9
  | .xA => .reservedA
  | .xB => .reservedB
  | .xC => .reservedC
  | .xD => .reservedD
  | .xE => .reservedE
  | .xF => .reservedF

/-- R61: the code of each tag. -/
def MessageType.code : MessageType → Nibble
  | .utility => 0x0#4
  | .systemRealTimeAndCommon => 0x1#4
  | .midi1ChannelVoice => 0x2#4
  | .dataInclSystemExclusive => 0x3#4
  | .midi2ChannelVoice => 0x4#4
  | .data => 0x5#4
  | .reserved6 => 0x6#4
  | .reserved7 => 0x7#4
  | .reserved8 => 0x8#4
  | .reserved9 => 0x9#4
  | .reservedA => 0xA#4
  | .reservedB => 0xB#4
  | .reservedC => 0xC#4
  | .reservedD => 0xD#4
  | .reservedE => 0xE#4
  | .reservedF => 0xF#4

/-- Why a negotiation frame is no row of format NEG5 (R72 (c)). The other three formats reject nothing (R72). Such a
frame is no fault: the host may present it all the same, and the block answers with errors (R137; log entry 10). -/
inductive DecodeError where
  /-- Byte 1 is not 0x00. -/
  | unrecognizedProtocolVersion
  /-- Byte 0 is neither 0x01 nor 0x02. -/
  | unrecognizedProtocolType
  /-- Byte 3 or 4, the index given, is not 0x00. -/
  | reservedByteViolation (index : Nat)
  deriving DecidableEq, Repr

/-- Format OP (R70, R71): the operation of each of the sixteen codes. -/
def decodeOp (sel : Nibble) : Instr :=
  match Hex.ofNibble sel with
  | .x0 => .mtChk
  | .x1 => .grpChk
  | .x2 => .umpMt
  | .x3 => .umpGrp
  | .x4 => .umpLen
  | .x5 => .m1Sval
  | .x6 => .m1Class
  | .x7 => .m1Ndb
  | .x8 => .m1Dval
  | .x9 => .ciPtype
  | .xA => .ciPver
  | .xB => .ciVal
  | .xC => .ciExt
  | .xD => .opRsvdD
  | .xE => .opRsvdE
  | .xF => .opRsvdF

/-- Format UMPW0 (R60, R61): `mt` = bits 31..28, `group` = bits 27..24, `rest` = bits 23..0. -/
def decodeHeader (w0 : Word) : Instr :=
  match Hex.ofNibble (nib w0 7) with
  | .x0 => .umpUtility (nib w0 6) (bits w0 23 0)
  | .x1 => .umpSystemRealTimeAndCommon (nib w0 6) (bits w0 23 0)
  | .x2 => .umpMidi1ChannelVoice (nib w0 6) (bits w0 23 0)
  | .x3 => .umpDataInclSystemExclusive (nib w0 6) (bits w0 23 0)
  | .x4 => .umpMidi2ChannelVoice (nib w0 6) (bits w0 23 0)
  | .x5 => .umpData (nib w0 6) (bits w0 23 0)
  | .x6 => .umpReserved6 (nib w0 6) (bits w0 23 0)
  | .x7 => .umpReserved7 (nib w0 6) (bits w0 23 0)
  | .x8 => .umpReserved8 (nib w0 6) (bits w0 23 0)
  | .x9 => .umpReserved9 (nib w0 6) (bits w0 23 0)
  | .xA => .umpReservedA (nib w0 6) (bits w0 23 0)
  | .xB => .umpReservedB (nib w0 6) (bits w0 23 0)
  | .xC => .umpReservedC (nib w0 6) (bits w0 23 0)
  | .xD => .umpReservedD (nib w0 6) (bits w0 23 0)
  | .xE => .umpReservedE (nib w0 6) (bits w0 23 0)
  | .xF => .umpReservedF (nib w0 6) (bits w0 23 0)

/-- Format M1BYTE (R62 to R64): bit 7 clear is a data byte; otherwise the high nibble, and for 0xF the low nibble. -/
def decodeByte (b : Byte) : Instr :=
  match Hex.ofNibble (nib b 1) with
  | .x0 | .x1 | .x2 | .x3 | .x4 | .x5 | .x6 | .x7 => .m1Data (bits b 6 0)
  | .x8 => .m1NoteOff (nib b 0)
  | .x9 => .m1NoteOn (nib b 0)
  | .xA => .m1PolyphonicKeyPressureOrAftertouch (nib b 0)
  | .xB => .m1ControlChangeOrChannelMode (nib b 0)
  | .xC => .m1ProgramChange (nib b 0)
  | .xD => .m1ChannelPressureOrAftertouch (nib b 0)
  | .xE => .m1PitchBendChange (nib b 0)
  | .xF =>
    match Hex.ofNibble (nib b 0) with
    | .x0 => .m1SystemExclusive
    | .x1 => .m1SystemCommonF1
    | .x2 => .m1SystemCommonF2
    | .x3 => .m1SystemCommonF3
    | .x4 => .m1SystemCommonF4
    | .x5 => .m1SystemCommonF5
    | .x6 => .m1SystemCommonF6
    | .x7 => .m1SystemCommonF7
    | .x8 | .x9 | .xA | .xB | .xC | .xD | .xE | .xF => .m1SystemRealTime (nib b 0)

/-- Format NEG5 (R65, R66): the two accepted shapes. The frame is a row when `CI.PVER` and `CI.VAL` accept it (source
column of the rows); the first failing check of those two, in their order (R137), names the rejection. -/
def decodeFrame (f : Frame) : Except DecodeError Instr :=
  if f.n1 ≠ 0x00#8 then .error .unrecognizedProtocolVersion
  else if f.n0 ≠ 0x01#8 ∧ f.n0 ≠ 0x02#8 then .error .unrecognizedProtocolType
  else if f.n3 ≠ 0x00#8 then .error (.reservedByteViolation 3)
  else if f.n4 ≠ 0x00#8 then .error (.reservedByteViolation 4)
  else if f.n0 = 0x01#8 then .ok (.negMidi1 f.n2)
  else .ok (.negMidi2 f.n2)

/-- The decoder: total on every value of every format. -/
def decode : Code → Except DecodeError Instr
  | .op sel => .ok (decodeOp sel)
  | .header w0 => .ok (decodeHeader w0)
  | .byte b => .ok (decodeByte b)
  | .frame f => decodeFrame f

/-! ### The encoder -/

/-- A header word from its three fields (R60). -/
def headerWord (t : MessageType) (group : Nibble) (rest : BitVec 24) : Word := t.code ++ group ++ rest

/-- A data byte: bit 7 clear, then the payload (R62). -/
def dataByteOf (payload : BitVec 7) : Byte := 0#1 ++ payload

/-- A status byte from its two nibbles (R63, R64). -/
def statusByteOf (high low : Nibble) : Byte := high ++ low

/-- An accepted negotiation frame of the given type (R65, R66). -/
def acceptedFrame (ptype ext : Byte) : Frame := { n0 := ptype, n1 := 0x00#8, n2 := ext, n3 := 0x00#8, n4 := 0x00#8 }

/-- The bits of an instruction, in its format. -/
def encode : Instr → Code
  | .mtChk => .op 0x0#4
  | .grpChk => .op 0x1#4
  | .umpMt => .op 0x2#4
  | .umpGrp => .op 0x3#4
  | .umpLen => .op 0x4#4
  | .m1Sval => .op 0x5#4
  | .m1Class => .op 0x6#4
  | .m1Ndb => .op 0x7#4
  | .m1Dval => .op 0x8#4
  | .ciPtype => .op 0x9#4
  | .ciPver => .op 0xA#4
  | .ciVal => .op 0xB#4
  | .ciExt => .op 0xC#4
  | .opRsvdD => .op 0xD#4
  | .opRsvdE => .op 0xE#4
  | .opRsvdF => .op 0xF#4
  | .umpUtility group rest => .header (headerWord .utility group rest)
  | .umpSystemRealTimeAndCommon group rest => .header (headerWord .systemRealTimeAndCommon group rest)
  | .umpMidi1ChannelVoice group rest => .header (headerWord .midi1ChannelVoice group rest)
  | .umpDataInclSystemExclusive group rest => .header (headerWord .dataInclSystemExclusive group rest)
  | .umpMidi2ChannelVoice group rest => .header (headerWord .midi2ChannelVoice group rest)
  | .umpData group rest => .header (headerWord .data group rest)
  | .umpReserved6 group rest => .header (headerWord .reserved6 group rest)
  | .umpReserved7 group rest => .header (headerWord .reserved7 group rest)
  | .umpReserved8 group rest => .header (headerWord .reserved8 group rest)
  | .umpReserved9 group rest => .header (headerWord .reserved9 group rest)
  | .umpReservedA group rest => .header (headerWord .reservedA group rest)
  | .umpReservedB group rest => .header (headerWord .reservedB group rest)
  | .umpReservedC group rest => .header (headerWord .reservedC group rest)
  | .umpReservedD group rest => .header (headerWord .reservedD group rest)
  | .umpReservedE group rest => .header (headerWord .reservedE group rest)
  | .umpReservedF group rest => .header (headerWord .reservedF group rest)
  | .m1Data payload => .byte (dataByteOf payload)
  | .m1NoteOff low => .byte (statusByteOf 0x8#4 low)
  | .m1NoteOn low => .byte (statusByteOf 0x9#4 low)
  | .m1PolyphonicKeyPressureOrAftertouch low => .byte (statusByteOf 0xA#4 low)
  | .m1ControlChangeOrChannelMode low => .byte (statusByteOf 0xB#4 low)
  | .m1ProgramChange low => .byte (statusByteOf 0xC#4 low)
  | .m1ChannelPressureOrAftertouch low => .byte (statusByteOf 0xD#4 low)
  | .m1PitchBendChange low => .byte (statusByteOf 0xE#4 low)
  | .m1SystemExclusive => .byte (statusByteOf 0xF#4 0x0#4)
  | .m1SystemCommonF1 => .byte (statusByteOf 0xF#4 0x1#4)
  | .m1SystemCommonF2 => .byte (statusByteOf 0xF#4 0x2#4)
  | .m1SystemCommonF3 => .byte (statusByteOf 0xF#4 0x3#4)
  | .m1SystemCommonF4 => .byte (statusByteOf 0xF#4 0x4#4)
  | .m1SystemCommonF5 => .byte (statusByteOf 0xF#4 0x5#4)
  | .m1SystemCommonF6 => .byte (statusByteOf 0xF#4 0x6#4)
  | .m1SystemCommonF7 => .byte (statusByteOf 0xF#4 0x7#4)
  | .m1SystemRealTime low => .byte (statusByteOf 0xF#4 low)
  | .negMidi1 ext => .frame (acceptedFrame 0x01#8 ext)
  | .negMidi2 ext => .frame (acceptedFrame 0x02#8 ext)

/-! ### Words as spec/opcode_table.json numbers them -/

/-- Five bytes from the table's 40-bit number, byte 0 leftmost, that is in bits 39..32 (R77). -/
def frameOfTableWord (w : BitVec 40) : Frame :=
  { n0 := bits w 39 32, n1 := bits w 31 24, n2 := bits w 23 16, n3 := bits w 15 8, n4 := bits w 7 0 }

/-- The format and the bits that a number of `nbits` bits stands for. The table gives format UMPW0 32 bits and NEG5
40. An OP row has 4 bits and so one whole byte, which an M1BYTE row has too: the two formats have ports of their own in
the block (R23, R26), and a bare byte below 0x10 is read here as format OP (DESIGN CHOICE, log entry 11; safe:
no step depends on it). -/
def codeOfTableWord (nbits w : Nat) : Option Code :=
  if w < 2 ^ nbits then
    if nbits = 40 then some (.frame (frameOfTableWord (BitVec.ofNat 40 w)))
    else if nbits = 32 then some (.header (BitVec.ofNat 32 w))
    else if nbits = 8 ∨ nbits = 4 then
      if w < 16 then some (.op (BitVec.ofNat 4 w)) else some (.byte (BitVec.ofNat 8 w))
    else none
  else none

/-- The instruction the decoder reads from a number of the table, none where it refuses. -/
def decodeTableWord (nbits w : Nat) : Option Instr :=
  match codeOfTableWord nbits w with
  | none => none
  | some c =>
    match decode c with
    | .ok i => some i
    | .error _ => none

end Sys2Proof
end

