-- ==== Sys2Proof/Machine/Values.lean ====
section
/-! DEFINITION. The typed values of 00_scope.md R12 and the error names of 60_exceptions.md R150, R151. `MessageType`
stands in Syntax.lean. -/

namespace Sys2Proof.Machine

/-- R12: the seven channel messages. -/
inductive ChannelMessage where
  | noteOff | noteOn | polyphonicKeyPressureOrAftertouch | controlChangeOrChannelMode | programChange
  | channelPressureOrAftertouch | pitchBendChange
  deriving DecidableEq, Repr

/-- R12: the three system messages. -/
inductive SystemMessage where
  | common | realTime | exclusive
  deriving DecidableEq, Repr

/-- R12: `Message`. -/
inductive Message where
  | channel (t : ChannelMessage)
  | system (t : SystemMessage)
  deriving DecidableEq, Repr

/-- R12: `DataBytes`; one name for the unbounded variant (90_conflicts.md C6). -/
inductive DataBytes where
  | fixed (count : Nat)
  | untilEox
  deriving DecidableEq, Repr

/-- R12: `ProtocolType`. -/
inductive ProtocolType where
  | midi1 | midi2
  deriving DecidableEq, Repr

/-- R12: `ProtocolVersion`. -/
inductive ProtocolVersion where
  | midi1 | midi2v1
  deriving DecidableEq, Repr

/-- R12: `Midi1Extensions`. -/
structure Midi1Extensions where
  /-- Bit 0 of byte 2 (R65). -/
  jitterReduction : Bool
  /-- Bit 1 of byte 2 (R65). -/
  largePackets : Bool
  deriving DecidableEq, Repr

/-- The error names: the nine of the source (R150) and this spec's own `IllegalOp` (R71, R151). -/
inductive ErrorName where
  | malformedHeader | invalidGroup | invalidStatusByte | invalidDataByte | unrecognizedProtocolType
  | unrecognizedProtocolVersion | reservedByteViolation | extensionsNotApplicable | unresolvedDataByteCount | illegalOp
  deriving DecidableEq, Repr

/-- R10: what an operation returns, `Ok(value)` or `Err(code, info)`. -/
inductive Result (α : Type) where
  | ok (value : α)
  | err (name : ErrorName) (info : BitVec 3)
  deriving DecidableEq, Repr

/-- The value of a successful response, under the type the operation returns (R12, the fifth column of R70). R12's
`Group` is an integer 0..`GROUP_MAX` and its `Words` an integer 1..4; both are numbers here, and Safety.lean states the
ranges. -/
inductive Value where
  | messageType (t : MessageType)
  | group (g : Nat)
  | words (n : Nat)
  | statusByte (b : Byte)
  | dataByte (b : Byte)
  | message (m : Message)
  | dataBytes (d : DataBytes)
  | protocolType (t : ProtocolType)
  | protocolVersion (v : ProtocolVersion)
  | unit
  | extensions (e : Midi1Extensions)
  deriving DecidableEq, Repr

/-- R10: a response with its typed value. -/
abbrev Response := Result Value

/-- R10: `let r <- OP(args)`: an error ends the current operation with that same error. -/
def Result.bind {α β : Type} (r : Result α) (f : α → Result β) : Result β :=
  match r with
  | .ok v => f v
  | .err e i => .err e i

/-- A result with its value put under another type; an error stays as it is. -/
def Result.map {α β : Type} (f : α → β) (r : Result α) : Result β :=
  match r with
  | .ok v => .ok (f v)
  | .err e i => .err e i

/-- Whether a result is `Ok`. -/
def Result.isOk {α : Type} (r : Result α) : Bool :=
  match r with
  | .ok _ => true
  | .err _ _ => false

end Sys2Proof.Machine
end

