-- ==== Sys2Proof/Machine/State.lean ====
section
/-! DEFINITION. The machine's state. The block keeps nothing between requests (10_state.md R20); State holds its ports
(R21 to R26, R30), the constants of its build (R6, R33) and the host's side of a run (R14 (b)): the transactions
still to be presented and the answers taken. -/

namespace Sys2Proof.Machine

/-- R21, R40: the packet port, four words; `w0` is the header word, the only one an operation reads. -/
structure Packet where
  w0 : Word
  w1 : Word
  w2 : Word
  w3 : Word
  deriving DecidableEq, Repr

/-- The contents of all operand ports (R26). -/
structure Operands where
  /-- Packet port `W[0..3]` (R21). -/
  w : Packet
  /-- Raw-value port `V` (R22). -/
  v : RawValue
  /-- Status-byte port `SB` (R23). -/
  sb : Byte
  /-- Data-byte port `DB` (R24). -/
  db : Byte
  /-- Negotiation port `N[0..4]` (R25). -/
  n : Frame
  deriving DecidableEq, Repr

/-- R30: the signals of the response port. -/
structure ResponsePort where
  /-- 1 for `Ok`. -/
  ok : Bool
  /-- The error code of R151, 0 when `ok` = 1. -/
  code : BitVec 4
  /-- The byte index of `ReservedByteViolation`, else 0. -/
  info : BitVec 3
  /-- The packed value of R75, 0 when `ok` = 0. -/
  res : BitVec 8
  deriving DecidableEq, Repr

/-- One response the host has taken, with the operation select it answers. -/
structure Answer where
  sel : Nibble
  response : Response
  deriving DecidableEq, Repr

/-- What the host presents to the block in one step (DESIGN CHOICE, log entry 8; unsafe). -/
inductive Transaction where
  /-- R26: a request, the operation select with the contents of all operand ports. -/
  | request (sel : Nibble) (ports : Operands)
  /-- A header word of format UMPW0 (R106: the host writes `W[0]` and asks). -/
  | header (w0 : Word)
  /-- A byte of format M1BYTE. -/
  | byte (b : Byte)
  /-- A payload of format NEG5. -/
  | frame (f : Frame)
  deriving DecidableEq, Repr

/-- Everything the spec gives the machine, and the host's side of the run. -/
structure State where
  /-- R6, R29: constants of the build; no step changes them (log entry 2). -/
  params : Params
  /-- R26: the operation select of the request. -/
  opSel : Nibble
  /-- R21 to R25: the operand ports. -/
  operands : Operands
  /-- R30: the response port. -/
  resp : ResponsePort
  /-- The model's own: what the host will present, the next first (log entry 8). -/
  pending : List Transaction
  /-- The model's own: the responses the host has taken, oldest first (log entry 1). No operation reads it. -/
  log : List Answer
  deriving DecidableEq, Repr

/-- Why the machine stops. No constructor: "There is no fault that stops the block, no stuck state and no undefined
result anywhere in it" (R154). Safe: a claim that needs a stop is unprovable. -/
inductive Fault
  deriving DecidableEq, Repr

/-- Why an instruction has no meaning. -/
inductive Refusal where
  /-- Raised by an arm of exec for an instruction that has no meaning yet; no arm of this model raises it. Safe. -/
  | notModelled (mnemonic : String)
  deriving DecidableEq, Repr

/-- What the response port shows before any request is answered. R33: "unspecified until the first request"
(DESIGN CHOICE all zero, log entry 4; unsafe). `ok` = 0 with `code` = 0 is a pair no response drives. -/
def ResponsePort.quiet : ResponsePort := { ok := false, code := 0#4, info := 0#3, res := 0#8 }

/-- The operand ports before the host drives them. R33: "unspecified until the host drives them"
(DESIGN CHOICE all zero, log entry 3; unsafe). -/
def Operands.undriven : Operands :=
  { w := { w0 := 0#32, w1 := 0#32, w2 := 0#32, w3 := 0#32 }, v := 0#8, sb := 0#8, db := 0#8,
    n := { n0 := 0#8, n1 := 0#8, n2 := 0#8, n3 := 0#8, n4 := 0#8 } }

/-- R33, R180: the machine right after reset. The parameters hold their built values, here the defaults of R6. -/
def State.reset : State :=
  { params := Params.default, opSel := 0#4, operands := Operands.undriven, resp := ResponsePort.quiet,
    pending := [], log := [] }

end Sys2Proof.Machine
end

