-- ==== Sys2Proof/Machine/Operands.lean ====
section
/-! DEFINITION. Reading the operand buffers, and how the host drives the operand ports. -/

namespace Sys2Proof.Machine

/-- R40: word `i` of the packet buffer. Every index the block uses is the constant 0. -/
def Packet.word (w : Packet) (i : Fin Config.pktWordsMax) : Word :=
  match i with
  | 0 => w.w0
  | 1 => w.w1
  | 2 => w.w2
  | 3 => w.w3

/-- R41: byte `i` of the negotiation buffer, in payload order (R45). -/
def frameByte (f : Frame) (i : Fin Config.negLen) : Byte :=
  match i with
  | 0 => f.n0
  | 1 => f.n1
  | 2 => f.n2
  | 3 => f.n3
  | 4 => f.n4

/-- The host drives the header word; the other three words keep what they hold (log entry 7), and no operation reads
them (R21). -/
def Operands.withHeader (x : Operands) (w0 : Word) : Operands := { x with w := { x.w with w0 := w0 } }

/-- The host drives one MIDI 1.0 byte on both byte ports (R23, R24; log entry 6). -/
def Operands.withByte (x : Operands) (b : Byte) : Operands := { x with sb := b, db := b }

/-- The host drives the negotiation port (R25). -/
def Operands.withFrame (x : Operands) (f : Frame) : Operands := { x with n := f }

end Sys2Proof.Machine
end

