-- ==== Sys2Proof/Machine/Flags.lean ====
section
/-! DEFINITION. The block has no flags and no condition codes (10_state.md R28). What an operation leaves behind it is
the response port alone; this file computes its four signals (R30): the error codes (60_exceptions.md R151) and the
packing of the typed values (30_encoding.md R75). -/

namespace Sys2Proof.Machine

/-- R151: the code of each error. -/
def ErrorName.code : ErrorName → BitVec 4
  | .malformedHeader => 1#4
  | .invalidGroup => 2#4
  | .invalidStatusByte => 3#4
  | .invalidDataByte => 4#4
  | .unrecognizedProtocolType => 5#4
  | .unrecognizedProtocolVersion => 6#4
  | .reservedByteViolation => 7#4
  | .extensionsNotApplicable => 8#4
  | .unresolvedDataByteCount => 9#4
  | .illegalOp => 15#4

/-- R63: the high nibble of each channel message. -/
def ChannelMessage.nibble : ChannelMessage → Nibble
  | .noteOff => 0x8#4
  | .noteOn => 0x9#4
  | .polyphonicKeyPressureOrAftertouch => 0xA#4
  | .controlChangeOrChannelMode => 0xB#4
  | .programChange => 0xC#4
  | .channelPressureOrAftertouch => 0xD#4
  | .pitchBendChange => 0xE#4

/-- R75, rows of `M1.CLASS`. -/
def Message.pack : Message → BitVec 8
  | .channel t => zext8 t.nibble
  | .system .common => 0x80#8
  | .system .realTime => 0x81#8
  | .system .exclusive => 0x82#8

/-- R75, rows of `M1.NDB`. -/
def DataBytes.pack : DataBytes → BitVec 8
  | .fixed n => BitVec.ofNat 8 n
  | .untilEox => 0x80#8

/-- R75: the 8 bits that carry a value. -/
def Value.pack : Value → BitVec 8
  | .messageType t => zext8 t.code
  | .group g => BitVec.ofNat 8 g
  | .words n => BitVec.ofNat 8 n
  | .statusByte b => b
  | .dataByte b => b
  | .message m => m.pack
  | .dataBytes d => d.pack
  | .protocolType .midi1 => 0x01#8
  | .protocolType .midi2 => 0x02#8
  | .protocolVersion .midi1 => 0x01#8
  | .protocolVersion .midi2v1 => 0x02#8
  | .unit => 0x00#8
  | .extensions e => 0b000000#6 ++ BitVec.ofBool e.largePackets ++ BitVec.ofBool e.jitterReduction

/-- R30, R162: the signals a response drives. -/
def Result.port (r : Response) : ResponsePort :=
  match r with
  | .ok v => { ok := true, code := 0#4, info := 0#3, res := v.pack }
  | .err e i => { ok := false, code := e.code, info := i, res := 0x00#8 }

end Sys2Proof.Machine
end

