-- ==== Sys2Proof/Machine/Ops.lean ====
section
/-! DEFINITION. The shared operations of every instruction: delivering a response, errors included, the host driving a
port, and taking the host's next transaction.

An error is the block's only exceptional event, and it is a response like any other (60_exceptions.md R162): `ok` = 0,
`code`, `info`, `res` = 0, "Nothing is saved, no mode or mask changes, no control goes anywhere". There is no return
operation and nothing to restore (R163). So one operation, `State.answer`, delivers both shapes. -/

namespace Sys2Proof.Machine

/-- Delivers the response to the request `sel`: the block drives the response port (R30, R162) and the host takes the
response into its record (R14 (b); log entry 1). Nothing else changes (R28). -/
def State.answer (s : State) (sel : Nibble) (r : Response) : State :=
  { s with opSel := sel, resp := r.port, log := s.log ++ [{ sel := sel, response := r }] }

/-- The host drives the header word of the packet port. -/
def State.driveHeader (s : State) (w0 : Word) : State := { s with operands := s.operands.withHeader w0 }

/-- The host drives both byte ports. -/
def State.driveByte (s : State) (b : Byte) : State := { s with operands := s.operands.withByte b }

/-- The host drives the negotiation port. -/
def State.driveFrame (s : State) (f : Frame) : State := { s with operands := s.operands.withFrame f }

/-- The host's next transaction, taken off the list: its code, and the state with the ports of a request driven
(R26, R181 (b)). A value of another format is driven by the meaning of its own instruction. -/
def State.fetch (s : State) : Option (Code × State) :=
  match s.pending with
  | [] => none
  | .request sel ports :: rest => some (.op sel, { s with opSel := sel, operands := ports, pending := rest })
  | .header w0 :: rest => some (.header w0, { s with pending := rest })
  | .byte b :: rest => some (.byte b, { s with pending := rest })
  | .frame f :: rest => some (.frame f, { s with pending := rest })

/-- The transaction by which the host presents a code; an operation comes with the ports as they stand. -/
def State.transactionOf (s : State) : Code → Transaction
  | .op sel => .request sel s.operands
  | .header w0 => .header w0
  | .byte b => .byte b
  | .frame f => .frame f

end Sys2Proof.Machine
end

