-- ==== Sys2Proof/Machine/Wrappers.lean ====
section
/-! DEFINITION. The MessageType and Group wrappers, `MT.CHK` and `GRP.CHK` (40_bitfield_wrappers.md R92 to R94). -/

namespace Sys2Proof.Machine

/-- The bound `GROUP_MAX` as a number (R6). -/
def groupBound (p : Params) : Nat :=
  match p.groupMax with
  | .max15 => 15
  | .max16 => 16

/-- R92, `MT.CHK`. -/
def mtChk (v : RawValue) : Result MessageType :=
  if v.toNat > 15 then .err .malformedHeader 0#3 else .ok (MessageType.ofCode (bits v 3 0))

/-- R93, `GRP.CHK`. -/
def grpChk (p : Params) (v : RawValue) : Result Nat :=
  if v.toNat > groupBound p then .err .invalidGroup 0#3 else .ok v.toNat

/-- The response of `MT.CHK` to a request (R70). -/
def answerMtChk (s : State) : State := s.answer 0x0#4 ((mtChk s.operands.v).map .messageType)

/-- The response of `GRP.CHK` to a request (R70). -/
def answerGrpChk (s : State) : State := s.answer 0x1#4 ((grpChk s.params s.operands.v).map .group)

/-- `MT.CHK` (R92). -/
def execMtChk (s : State) : Host.Outcome State Fault Refusal := .next (answerMtChk s)

/-- `GRP.CHK` (R93). -/
def execGrpChk (s : State) : Host.Outcome State Fault Refusal := .next (answerGrpChk s)

end Sys2Proof.Machine
end

