-- ==== Sys2Proof/Machine/Midi1.lean ====
section
/-! DEFINITION. Unit U1, the MIDI 1.0 status-byte and data-byte validator: `M1.SVAL`, `M1.CLASS`, `M1.NDB`, `M1.DVAL`
(42_midi1.md R110 to R118). -/

namespace Sys2Proof.Machine

/-- R111, `M1.SVAL`. -/
def m1Sval (sb : Byte) : Result Byte :=
  if sb.getLsbD 7 then .ok sb else .err .invalidStatusByte 0#3

/-- R112, `M1.CLASS`. The high nibble is one of 0x8 to 0xF once `M1.SVAL` has passed; the rows 0x0 to 0x7 are
unreachable and carry the error of `M1.SVAL`. -/
def m1Class (sb : Byte) : Result Message :=
  (m1Sval sb).bind fun b =>
    match Hex.ofNibble (nib b 1) with
    | .x8 => .ok (.channel .noteOff)
    | .x9 => .ok (.channel .noteOn)
    | .xA => .ok (.channel .polyphonicKeyPressureOrAftertouch)
    | .xB => .ok (.channel .controlChangeOrChannelMode)
    | .xC => .ok (.channel .programChange)
    | .xD => .ok (.channel .channelPressureOrAftertouch)
    | .xE => .ok (.channel .pitchBendChange)
    | .xF =>
      match Hex.ofNibble (nib b 0) with
      | .x0 => .ok (.system .exclusive)
      | .x1 | .x2 | .x3 | .x4 | .x5 | .x6 | .x7 => .ok (.system .common)
      | .x8 | .x9 | .xA | .xB | .xC | .xD | .xE | .xF => .ok (.system .realTime)
    | .x0 | .x1 | .x2 | .x3 | .x4 | .x5 | .x6 | .x7 => .err .invalidStatusByte 0#3

/-- R115: the data-byte count of each channel message. -/
def ChannelMessage.count : ChannelMessage → Nat
  | .noteOff => 2
  | .noteOn => 2
  | .polyphonicKeyPressureOrAftertouch => 2
  | .controlChangeOrChannelMode => 2
  | .programChange => 1
  | .channelPressureOrAftertouch => 1
  | .pitchBendChange => 2

/-- R117, `syscommon(SB)`, for 0xF1 to 0xF7 and only when `SYSCOMMON_RESOLVE` is true. The spec supplies the table from
general knowledge (G1): PRESUMED, log entry 15; unsafe. -/
def sysCommon (sb : Byte) : Result DataBytes :=
  if sb = 0xF1#8 then .ok (.fixed 1)
  else if sb = 0xF2#8 then .ok (.fixed 2)
  else if sb = 0xF3#8 then .ok (.fixed 1)
  else if sb = 0xF6#8 then .ok (.fixed 0)
  else if sb = 0xF7#8 then .ok (.fixed 0)
  else .err .unresolvedDataByteCount 0#3

/-- R113, `M1.NDB`. -/
def m1Ndb (p : Params) (sb : Byte) : Result DataBytes :=
  (m1Class sb).bind fun m =>
    match m with
    | .channel t => .ok (.fixed t.count)
    | .system .realTime => .ok (.fixed 0)
    | .system .exclusive => .ok .untilEox
    | .system .common =>
      if p.sysCommonResolve then sysCommon sb else .err .unresolvedDataByteCount 0#3

/-- R114, `M1.DVAL`. -/
def m1Dval (db : Byte) : Result Byte :=
  if db.getLsbD 7 then .err .invalidDataByte 0#3 else .ok db

/-- The response of `M1.SVAL` to a request (R70). -/
def answerM1Sval (s : State) : State := s.answer 0x5#4 ((m1Sval s.operands.sb).map .statusByte)

/-- The response of `M1.CLASS` to a request (R70). -/
def answerM1Class (s : State) : State := s.answer 0x6#4 ((m1Class s.operands.sb).map .message)

/-- The response of `M1.NDB` to a request (R70). -/
def answerM1Ndb (s : State) : State := s.answer 0x7#4 ((m1Ndb s.params s.operands.sb).map .dataBytes)

/-- The response of `M1.DVAL` to a request (R70). -/
def answerM1Dval (s : State) : State := s.answer 0x8#4 ((m1Dval s.operands.db).map .dataByte)

/-- `M1.SVAL` (R111). -/
def execM1Sval (s : State) : Host.Outcome State Fault Refusal := .next (answerM1Sval s)

/-- `M1.CLASS` (R112). -/
def execM1Class (s : State) : Host.Outcome State Fault Refusal := .next (answerM1Class s)

/-- `M1.NDB` (R113). -/
def execM1Ndb (s : State) : Host.Outcome State Fault Refusal := .next (answerM1Ndb s)

/-- `M1.DVAL` (R114). -/
def execM1Dval (s : State) : Host.Outcome State Fault Refusal := .next (answerM1Dval s)

end Sys2Proof.Machine
end

