-- ==== Sys2Proof/Machine/Bytes.lean ====
section
/-! DEFINITION. The rows of format M1BYTE (30_encoding.md R62 to R64) as instructions. The host presents a byte and asks
the four operations of unit U1 in op-code order, which is a row of the table of the whole byte space
(42_midi1.md R118). DESIGN CHOICE, log entries 5 and 6; unsafe. -/

namespace Sys2Proof.Machine

/-- Presents a byte on both byte ports and takes the four answers of unit U1. -/
def presentByte (b : Byte) (s : State) : State :=
  answerM1Dval (answerM1Ndb (answerM1Class (answerM1Sval (s.driveByte b))))

/-- A data byte, bit 7 clear (R62). -/
def execM1Data (payload : BitVec 7) (s : State) : Host.Outcome State Fault Refusal :=
  .next (presentByte (dataByteOf payload) s)

/-- A status byte with high nibble 0x8, `NoteOff` (R63). -/
def execM1NoteOff (low : Nibble) (s : State) : Host.Outcome State Fault Refusal :=
  .next (presentByte (statusByteOf 0x8#4 low) s)

/-- A status byte with high nibble 0x9, `NoteOn` (R63). -/
def execM1NoteOn (low : Nibble) (s : State) : Host.Outcome State Fault Refusal :=
  .next (presentByte (statusByteOf 0x9#4 low) s)

/-- A status byte with high nibble 0xA, `PolyphonicKeyPressureOrAftertouch` (R63). -/
def execM1PolyphonicKeyPressureOrAftertouch (low : Nibble) (s : State) : Host.Outcome State Fault Refusal :=
  .next (presentByte (statusByteOf 0xA#4 low) s)

/-- A status byte with high nibble 0xB, `ControlChangeOrChannelMode` (R63). -/
def execM1ControlChangeOrChannelMode (low : Nibble) (s : State) : Host.Outcome State Fault Refusal :=
  .next (presentByte (statusByteOf 0xB#4 low) s)

/-- A status byte with high nibble 0xC, `ProgramChange` (R63). -/
def execM1ProgramChange (low : Nibble) (s : State) : Host.Outcome State Fault Refusal :=
  .next (presentByte (statusByteOf 0xC#4 low) s)

/-- A status byte with high nibble 0xD, `ChannelPressureOrAftertouch` (R63). -/
def execM1ChannelPressureOrAftertouch (low : Nibble) (s : State) : Host.Outcome State Fault Refusal :=
  .next (presentByte (statusByteOf 0xD#4 low) s)

/-- A status byte with high nibble 0xE, `PitchBendChange` (R63). -/
def execM1PitchBendChange (low : Nibble) (s : State) : Host.Outcome State Fault Refusal :=
  .next (presentByte (statusByteOf 0xE#4 low) s)

/-- The status byte 0xF0, `Exclusive` (R64). -/
def execM1SystemExclusive (s : State) : Host.Outcome State Fault Refusal :=
  .next (presentByte (statusByteOf 0xF#4 0x0#4) s)

/-- The status byte 0xF1, `Common` (R64). -/
def execM1SystemCommonF1 (s : State) : Host.Outcome State Fault Refusal :=
  .next (presentByte (statusByteOf 0xF#4 0x1#4) s)

/-- The status byte 0xF2, `Common` (R64). -/
def execM1SystemCommonF2 (s : State) : Host.Outcome State Fault Refusal :=
  .next (presentByte (statusByteOf 0xF#4 0x2#4) s)

/-- The status byte 0xF3, `Common` (R64). -/
def execM1SystemCommonF3 (s : State) : Host.Outcome State Fault Refusal :=
  .next (presentByte (statusByteOf 0xF#4 0x3#4) s)

/-- The status byte 0xF4, `Common` (R64). -/
def execM1SystemCommonF4 (s : State) : Host.Outcome State Fault Refusal :=
  .next (presentByte (statusByteOf 0xF#4 0x4#4) s)

/-- The status byte 0xF5, `Common` (R64). -/
def execM1SystemCommonF5 (s : State) : Host.Outcome State Fault Refusal :=
  .next (presentByte (statusByteOf 0xF#4 0x5#4) s)

/-- The status byte 0xF6, `Common` (R64). -/
def execM1SystemCommonF6 (s : State) : Host.Outcome State Fault Refusal :=
  .next (presentByte (statusByteOf 0xF#4 0x6#4) s)

/-- The status byte 0xF7, `Common` (R64). -/
def execM1SystemCommonF7 (s : State) : Host.Outcome State Fault Refusal :=
  .next (presentByte (statusByteOf 0xF#4 0x7#4) s)

/-- A status byte 0xF8 to 0xFF, `RealTime` (R64). -/
def execM1SystemRealTime (low : Nibble) (s : State) : Host.Outcome State Fault Refusal :=
  .next (presentByte (statusByteOf 0xF#4 low) s)

end Sys2Proof.Machine
end

