-- ==== Sys2Proof/Machine/MidiCi.lean ====
section
/-! DEFINITION. Unit U2, the MIDI-CI negotiation frame parser: `CI.PTYPE`, `CI.PVER`, `CI.VAL`, `CI.EXT`
(43_midi_ci.md R130 to R137). Where two conditions hold the order is R161's. -/

namespace Sys2Proof.Machine

/-- R131, `CI.PTYPE`: the whole of byte 0 is compared. -/
def ciPtype (f : Frame) : Result ProtocolType :=
  if frameByte f 0 = 0x01#8 then .ok .midi1
  else if frameByte f 0 = 0x02#8 then .ok .midi2
  else .err .unrecognizedProtocolType 0#3

/-- R132, `CI.PVER`: byte 1 before byte 0 (R161 (a), the spec's D12). -/
def ciPver (f : Frame) : Result ProtocolVersion :=
  if frameByte f 1 ≠ 0x00#8 then .err .unrecognizedProtocolVersion 0#3
  else
    (ciPtype f).bind fun t =>
      match t with
      | .midi1 => .ok .midi1
      | .midi2 => .ok .midi2v1

/-- R133, R136, `CI.VAL`: the lowest violating index (R161 (b), the spec's D11). -/
def ciVal (p : Params) (f : Frame) : Result Unit :=
  if p.strictExtReserved ∧ bits (frameByte f 2) 7 2 ≠ 0#6 then .err .reservedByteViolation 2#3
  else if frameByte f 3 ≠ 0x00#8 then .err .reservedByteViolation 3#3
  else if frameByte f 4 ≠ 0x00#8 then .err .reservedByteViolation 4#3
  else .ok ()

/-- R134, `CI.EXT`: an unrecognized type keeps its own error (R161 (c), the spec's D13). -/
def ciExt (f : Frame) : Result Midi1Extensions :=
  (ciPtype f).bind fun t =>
    match t with
    | .midi2 => .err .extensionsNotApplicable 0#3
    | .midi1 =>
      .ok { jitterReduction := (frameByte f 2).getLsbD 0, largePackets := (frameByte f 2).getLsbD 1 }

/-- The response of `CI.PTYPE` to a request (R70). -/
def answerCiPtype (s : State) : State := s.answer 0x9#4 ((ciPtype s.operands.n).map .protocolType)

/-- The response of `CI.PVER` to a request (R70). -/
def answerCiPver (s : State) : State := s.answer 0xA#4 ((ciPver s.operands.n).map .protocolVersion)

/-- The response of `CI.VAL` to a request (R70). -/
def answerCiVal (s : State) : State := s.answer 0xB#4 ((ciVal s.params s.operands.n).map fun _ => .unit)

/-- The response of `CI.EXT` to a request (R70). -/
def answerCiExt (s : State) : State := s.answer 0xC#4 ((ciExt s.operands.n).map .extensions)

/-- `CI.PTYPE` (R131). -/
def execCiPtype (s : State) : Host.Outcome State Fault Refusal := .next (answerCiPtype s)

/-- `CI.PVER` (R132). -/
def execCiPver (s : State) : Host.Outcome State Fault Refusal := .next (answerCiPver s)

/-- `CI.VAL` (R133). -/
def execCiVal (s : State) : Host.Outcome State Fault Refusal := .next (answerCiVal s)

/-- `CI.EXT` (R134). -/
def execCiExt (s : State) : Host.Outcome State Fault Refusal := .next (answerCiExt s)

end Sys2Proof.Machine
end

