-- ==== Sys2Proof/Machine/Frames.lean ====
section
/-! DEFINITION. The rows of format NEG5 (30_encoding.md R65, R66) as instructions. The host presents a payload and asks
the four operations of unit U2 in op-code order, a row of the table of the whole frame space (43_midi_ci.md R137; program
P3: "all four accessors"). DESIGN CHOICE, log entry 5; unsafe. -/

namespace Sys2Proof.Machine

/-- Presents a payload and takes the four answers of unit U2. The payload may be any five bytes (R25): the answers
to one that no row takes in are errors (R137; log entry 10). -/
def presentFrame (f : Frame) (s : State) : State :=
  answerCiExt (answerCiVal (answerCiPver (answerCiPtype (s.driveFrame f))))

/-- An accepted frame of protocol type 0x01 (R66). -/
def execNegMidi1 (ext : Byte) (s : State) : Host.Outcome State Fault Refusal :=
  .next (presentFrame (acceptedFrame 0x01#8 ext) s)

/-- An accepted frame of protocol type 0x02 (R66). -/
def execNegMidi2 (ext : Byte) (s : State) : Host.Outcome State Fault Refusal :=
  .next (presentFrame (acceptedFrame 0x02#8 ext) s)

/-- What a step does with a code that is no row of the table. Only a frame can be one (R72); it is presented like any
other, for "every request has exactly one response" (93_implementation_defined.md U15). -/
def presentUndecoded (c : Code) (s : State) : State :=
  match c with
  | .frame f => presentFrame f s
  | .op _ => s
  | .header _ => s
  | .byte _ => s

end Sys2Proof.Machine
end

