-- ==== Sys2Proof/Machine/UmpHeader.lean ====
section
/-! DEFINITION. Unit U0, the UMP packet header decoder: `UMP.MT`, `UMP.GRP`, `UMP.LEN` (41_ump_header.md R100 to R105).
The error paths are kept as the source keeps them; none is reachable (60_exceptions.md R153, the spec's D25). -/

namespace Sys2Proof.Machine

/-- R101, `UMP.MT`. -/
def umpMt (w : Packet) : Result MessageType :=
  (mtChk (zext8 (nib (w.word 0) 7))).bind fun t => .ok t

/-- R102, `UMP.GRP`. -/
def umpGrp (p : Params) (w : Packet) : Result Nat :=
  (grpChk p (zext8 (nib (w.word 0) 6))).bind fun g => .ok g

/-- R104: the packet length table, in 32-bit words. -/
def packetWords : MessageType → Nat
  | .utility => 1
  | .systemRealTimeAndCommon => 1
  | .midi1ChannelVoice => 1
  | .dataInclSystemExclusive => 2
  | .midi2ChannelVoice => 2
  | .data => 4
  | .reserved6 => 1
  | .reserved7 => 1
  | .reserved8 => 2
  | .reserved9 => 2
  | .reservedA => 2
  | .reservedB => 3
  | .reservedC => 3
  | .reservedD => 4
  | .reservedE => 4
  | .reservedF => 4

/-- R103, `UMP.LEN`. -/
def umpLen (w : Packet) : Result Nat :=
  (umpMt w).bind fun t => .ok (packetWords t)

/-- The response of `UMP.MT` to a request (R70). -/
def answerUmpMt (s : State) : State := s.answer 0x2#4 ((umpMt s.operands.w).map .messageType)

/-- The response of `UMP.GRP` to a request (R70). -/
def answerUmpGrp (s : State) : State := s.answer 0x3#4 ((umpGrp s.params s.operands.w).map .group)

/-- The response of `UMP.LEN` to a request (R70). -/
def answerUmpLen (s : State) : State := s.answer 0x4#4 ((umpLen s.operands.w).map .words)

/-- `UMP.MT` (R101). -/
def execUmpMt (s : State) : Host.Outcome State Fault Refusal := .next (answerUmpMt s)

/-- `UMP.GRP` (R102). -/
def execUmpGrp (s : State) : Host.Outcome State Fault Refusal := .next (answerUmpGrp s)

/-- `UMP.LEN` (R103). -/
def execUmpLen (s : State) : Host.Outcome State Fault Refusal := .next (answerUmpLen s)

end Sys2Proof.Machine
end

