-- ==== Sys2Proof/Machine/Packets.lean ====
section
/-! DEFINITION. The rows of format UMPW0 (30_encoding.md R60, R61, 41_ump_header.md R104) as instructions. The host
presents a header word on `W[0]` and asks the three operations of unit U0 in op-code order, the line of the trace
of program P1 ("three requests with op 0x2, 0x3, 0x4 on the same W[0]"). DESIGN CHOICE, log entry 5; unsafe. -/

namespace Sys2Proof.Machine

/-- Presents a header word and takes the three answers of unit U0. -/
def presentHeader (w0 : Word) (s : State) : State := answerUmpLen (answerUmpGrp (answerUmpMt (s.driveHeader w0)))

/-- A header word with `mt` = 0x0, `Utility` (R61). -/
def execUmpUtility (group : Nibble) (rest : BitVec 24) (s : State) : Host.Outcome State Fault Refusal :=
  .next (presentHeader (headerWord .utility group rest) s)

/-- A header word with `mt` = 0x1, `SystemRealTimeAndCommon` (R61). -/
def execUmpSystemRealTimeAndCommon (group : Nibble) (rest : BitVec 24) (s : State) : Host.Outcome State Fault Refusal :=
  .next (presentHeader (headerWord .systemRealTimeAndCommon group rest) s)

/-- A header word with `mt` = 0x2, `Midi1ChannelVoice` (R61). -/
def execUmpMidi1ChannelVoice (group : Nibble) (rest : BitVec 24) (s : State) : Host.Outcome State Fault Refusal :=
  .next (presentHeader (headerWord .midi1ChannelVoice group rest) s)

/-- A header word with `mt` = 0x3, `DataInclSystemExclusive` (R61). -/
def execUmpDataInclSystemExclusive (group : Nibble) (rest : BitVec 24) (s : State) : Host.Outcome State Fault Refusal :=
  .next (presentHeader (headerWord .dataInclSystemExclusive group rest) s)

/-- A header word with `mt` = 0x4, `Midi2ChannelVoice` (R61). -/
def execUmpMidi2ChannelVoice (group : Nibble) (rest : BitVec 24) (s : State) : Host.Outcome State Fault Refusal :=
  .next (presentHeader (headerWord .midi2ChannelVoice group rest) s)

/-- A header word with `mt` = 0x5, `Data` (R61). -/
def execUmpData (group : Nibble) (rest : BitVec 24) (s : State) : Host.Outcome State Fault Refusal :=
  .next (presentHeader (headerWord .data group rest) s)

/-- A header word with `mt` = 0x6, `Reserved6` (R61). -/
def execUmpReserved6 (group : Nibble) (rest : BitVec 24) (s : State) : Host.Outcome State Fault Refusal :=
  .next (presentHeader (headerWord .reserved6 group rest) s)

/-- A header word with `mt` = 0x7, `Reserved7` (R61). -/
def execUmpReserved7 (group : Nibble) (rest : BitVec 24) (s : State) : Host.Outcome State Fault Refusal :=
  .next (presentHeader (headerWord .reserved7 group rest) s)

/-- A header word with `mt` = 0x8, `Reserved8` (R61). -/
def execUmpReserved8 (group : Nibble) (rest : BitVec 24) (s : State) : Host.Outcome State Fault Refusal :=
  .next (presentHeader (headerWord .reserved8 group rest) s)

/-- A header word with `mt` = 0x9, `Reserved9` (R61). -/
def execUmpReserved9 (group : Nibble) (rest : BitVec 24) (s : State) : Host.Outcome State Fault Refusal :=
  .next (presentHeader (headerWord .reserved9 group rest) s)

/-- A header word with `mt` = 0xA, `ReservedA` (R61). -/
def execUmpReservedA (group : Nibble) (rest : BitVec 24) (s : State) : Host.Outcome State Fault Refusal :=
  .next (presentHeader (headerWord .reservedA group rest) s)

/-- A header word with `mt` = 0xB, `ReservedB` (R61). -/
def execUmpReservedB (group : Nibble) (rest : BitVec 24) (s : State) : Host.Outcome State Fault Refusal :=
  .next (presentHeader (headerWord .reservedB group rest) s)

/-- A header word with `mt` = 0xC, `ReservedC` (R61). -/
def execUmpReservedC (group : Nibble) (rest : BitVec 24) (s : State) : Host.Outcome State Fault Refusal :=
  .next (presentHeader (headerWord .reservedC group rest) s)

/-- A header word with `mt` = 0xD, `ReservedD` (R61). -/
def execUmpReservedD (group : Nibble) (rest : BitVec 24) (s : State) : Host.Outcome State Fault Refusal :=
  .next (presentHeader (headerWord .reservedD group rest) s)

/-- A header word with `mt` = 0xE, `ReservedE` (R61). -/
def execUmpReservedE (group : Nibble) (rest : BitVec 24) (s : State) : Host.Outcome State Fault Refusal :=
  .next (presentHeader (headerWord .reservedE group rest) s)

/-- A header word with `mt` = 0xF, `ReservedF` (R61). -/
def execUmpReservedF (group : Nibble) (rest : BitVec 24) (s : State) : Host.Outcome State Fault Refusal :=
  .next (presentHeader (headerWord .reservedF group rest) s)

end Sys2Proof.Machine
end

