-- ==== Sys2Proof/Machine/Reserved.lean ====
section
/-! DEFINITION. The reserved operation codes 0xD, 0xE, 0xF: "The block answers `Err(IllegalOp, 0)` and reads no operand"
(30_encoding.md R71). -/

namespace Sys2Proof.Machine

/-- The response to a reserved code (R71, R161 (e)). -/
def illegalOp : Response := .err .illegalOp 0#3

/-- Reserved code 0xD (R71). -/
def execOpRsvdD (s : State) : Host.Outcome State Fault Refusal := .next (s.answer 0xD#4 illegalOp)

/-- Reserved code 0xE (R71). -/
def execOpRsvdE (s : State) : Host.Outcome State Fault Refusal := .next (s.answer 0xE#4 illegalOp)

/-- Reserved code 0xF (R71). -/
def execOpRsvdF (s : State) : Host.Outcome State Fault Refusal := .next (s.answer 0xF#4 illegalOp)

end Sys2Proof.Machine
end

