-- ==== Sys2Proof/Machine/Dispatch.lean ====
section
/-! DEFINITION. One arm per constructor of Instr. -/

namespace Sys2Proof.Machine

/-- The meaning of each instruction. -/
def exec (i : Instr) (s : State) : Host.Outcome State Fault Refusal :=
  match i with
  -- format OP: R70, R71
  | .mtChk => Sys2Proof.Machine.execMtChk s
  | .grpChk => Sys2Proof.Machine.execGrpChk s
  | .umpMt => Sys2Proof.Machine.execUmpMt s
  | .umpGrp => Sys2Proof.Machine.execUmpGrp s
  | .umpLen => Sys2Proof.Machine.execUmpLen s
  | .m1Sval => Sys2Proof.Machine.execM1Sval s
  | .m1Class => Sys2Proof.Machine.execM1Class s
  | .m1Ndb => Sys2Proof.Machine.execM1Ndb s
  | .m1Dval => Sys2Proof.Machine.execM1Dval s
  | .ciPtype => Sys2Proof.Machine.execCiPtype s
  | .ciPver => Sys2Proof.Machine.execCiPver s
  | .ciVal => Sys2Proof.Machine.execCiVal s
  | .ciExt => Sys2Proof.Machine.execCiExt s
  | .opRsvdD => Sys2Proof.Machine.execOpRsvdD s
  | .opRsvdE => Sys2Proof.Machine.execOpRsvdE s
  | .opRsvdF => Sys2Proof.Machine.execOpRsvdF s
  -- format UMPW0: R60, R61
  | .umpUtility group rest => Sys2Proof.Machine.execUmpUtility group rest s
  | .umpSystemRealTimeAndCommon group rest => Sys2Proof.Machine.execUmpSystemRealTimeAndCommon group rest s
  | .umpMidi1ChannelVoice group rest => Sys2Proof.Machine.execUmpMidi1ChannelVoice group rest s
  | .umpDataInclSystemExclusive group rest => Sys2Proof.Machine.execUmpDataInclSystemExclusive group rest s
  | .umpMidi2ChannelVoice group rest => Sys2Proof.Machine.execUmpMidi2ChannelVoice group rest s
  | .umpData group rest => Sys2Proof.Machine.execUmpData group rest s
  | .umpReserved6 group rest => Sys2Proof.Machine.execUmpReserved6 group rest s
  | .umpReserved7 group rest => Sys2Proof.Machine.execUmpReserved7 group rest s
  | .umpReserved8 group rest => Sys2Proof.Machine.execUmpReserved8 group rest s
  | .umpReserved9 group rest => Sys2Proof.Machine.execUmpReserved9 group rest s
  | .umpReservedA group rest => Sys2Proof.Machine.execUmpReservedA group rest s
  | .umpReservedB group rest => Sys2Proof.Machine.execUmpReservedB group rest s
  | .umpReservedC group rest => Sys2Proof.Machine.execUmpReservedC group rest s
  | .umpReservedD group rest => Sys2Proof.Machine.execUmpReservedD group rest s
  | .umpReservedE group rest => Sys2Proof.Machine.execUmpReservedE group rest s
  | .umpReservedF group rest => Sys2Proof.Machine.execUmpReservedF group rest s
  -- format M1BYTE: R62 to R64
  | .m1Data payload => Sys2Proof.Machine.execM1Data payload s
  | .m1NoteOff low => Sys2Proof.Machine.execM1NoteOff low s
  | .m1NoteOn low => Sys2Proof.Machine.execM1NoteOn low s
  | .m1PolyphonicKeyPressureOrAftertouch low => Sys2Proof.Machine.execM1PolyphonicKeyPressureOrAftertouch low s
  | .m1ControlChangeOrChannelMode low => Sys2Proof.Machine.execM1ControlChangeOrChannelMode low s
  | .m1ProgramChange low => Sys2Proof.Machine.execM1ProgramChange low s
  | .m1ChannelPressureOrAftertouch low => Sys2Proof.Machine.execM1ChannelPressureOrAftertouch low s
  | .m1PitchBendChange low => Sys2Proof.Machine.execM1PitchBendChange low s
  | .m1SystemExclusive => Sys2Proof.Machine.execM1SystemExclusive s
  | .m1SystemCommonF1 => Sys2Proof.Machine.execM1SystemCommonF1 s
  | .m1SystemCommonF2 => Sys2Proof.Machine.execM1SystemCommonF2 s
  | .m1SystemCommonF3 => Sys2Proof.Machine.execM1SystemCommonF3 s
  | .m1SystemCommonF4 => Sys2Proof.Machine.execM1SystemCommonF4 s
  | .m1SystemCommonF5 => Sys2Proof.Machine.execM1SystemCommonF5 s
  | .m1SystemCommonF6 => Sys2Proof.Machine.execM1SystemCommonF6 s
  | .m1SystemCommonF7 => Sys2Proof.Machine.execM1SystemCommonF7 s
  | .m1SystemRealTime low => Sys2Proof.Machine.execM1SystemRealTime low s
  -- format NEG5: R65, R66
  | .negMidi1 ext => Sys2Proof.Machine.execNegMidi1 ext s
  | .negMidi2 ext => Sys2Proof.Machine.execNegMidi2 ext s

end Sys2Proof.Machine
end

