-- ==== Sys2Proof/Machine/Step.lean ====
section
/-! DEFINITION. One step: the block serves the host's next transaction. -/

namespace Sys2Proof.Machine

/-- Takes the next transaction, decodes its code and runs the instruction. With none pending the block waits and
nothing changes (log entry 8). -/
def step (s : State) : Host.Outcome State Fault Refusal :=
  match s.fetch with
  | none => .next s
  | some (c, s') =>
    match decode c with
    | .ok i => exec i s'
    | .error _ => .next (presentUndecoded c s')

/-- Puts the instruction a number of spec/opcode_table.json stands for where `step` takes its next transaction. An
operation comes with the operand ports as they stand. -/
def State.withFetchWord (s : State) (nbits w : Nat) : State :=
  match codeOfTableWord nbits w with
  | none => s
  | some c => { s with pending := s.transactionOf c :: s.pending }

end Sys2Proof.Machine
end

