-- ==== Sys2Proof/Machine/MessageAssembly.lean ====
section
/-! DEFINITION. The host's assembly of one MIDI 1.0 message from a byte sequence (42_midi1.md R116,
70_reset_and_hazards.md R187). Not an operation of the block. What the host does with a byte that fails is in no source;
this host stops and reports the error (DESIGN CHOICE, log entry 13; unsafe for claims about other hosts). Nor is what it does
when the sequence ends inside a message (91_not_in_source.md N9): this host reports it as incomplete, with the bytes taken
(DESIGN CHOICE, log entry 21; unsafe for claims about other hosts). -/

namespace Sys2Proof.Machine

/-- What came of taking one message. -/
inductive Assembly where
  /-- A whole message, and the bytes after it. -/
  | message (bytes rest : List Byte)
  /-- The block answered with this error to the first byte of `rest`. -/
  | failed (name : ErrorName) (rest : List Byte)
  /-- The sequence ended inside the message, or was empty, and these bytes of it were taken. The spec leaves open what a host
  does then (N9): DESIGN CHOICE, log entry 21; unsafe for claims about other hosts. -/
  | incomplete (bytes : List Byte)
  deriving DecidableEq, Repr

/-- After `Ok(Fixed(n))`: "it presents each of the next n bytes to M1.DVAL" (R116). A byte that fails stops the
assembly (DESIGN CHOICE, log entry 13); a sequence with too few bytes is reported as incomplete (DESIGN CHOICE, log entry 21). -/
def takeDataBytes (taken : List Byte) (n : Nat) (bs : List Byte) : Assembly :=
  match n, bs with
  | 0, rest => .message taken rest
  | _ + 1, [] => .incomplete taken
  | k + 1, b :: rest =>
    match m1Dval b with
    | .ok d => takeDataBytes (taken ++ [d]) k rest
    | .err e _ => .failed e (b :: rest)

/-- After `Ok(UntilEox)`: data bytes "until a terminating End-Of-Exclusive status byte (0xF7) is observed"; the host
compares the byte with 0xF7 itself (R116). A byte that fails stops the assembly (DESIGN CHOICE, log entry 13); a sequence
that ends with no 0xF7 is reported as incomplete (DESIGN CHOICE, log entry 21). -/
def takeUntilEox (taken : List Byte) (bs : List Byte) : Assembly :=
  match bs with
  | [] => .incomplete taken
  | b :: rest =>
    if b = 0xF7#8 then .message (taken ++ [b]) rest
    else
      match m1Dval b with
      | .ok d => takeUntilEox (taken ++ [d]) rest
      | .err e _ => .failed e (b :: rest)

/-- R116: "the host presents the first byte to M1.NDB". A first byte that fails stops the assembly (DESIGN CHOICE, log entry
13); an empty sequence is reported as incomplete (DESIGN CHOICE, log entry 21). -/
def assembleMessage (p : Params) (bs : List Byte) : Assembly :=
  match bs with
  | [] => .incomplete []
  | sb :: rest =>
    match m1Ndb p sb with
    | .err e _ => .failed e (sb :: rest)
    | .ok (.fixed n) => takeDataBytes [sb] n rest
    | .ok .untilEox => takeUntilEox [sb] rest

end Sys2Proof.Machine
end

