-- ==== Sys2Proof/Machine/Negotiation.lean ====
section
/-! DEFINITION. The host's verdict on a negotiation frame (43_midi_ci.md R135, program P3). Not an operation of the
block: "no single operation says it". -/

namespace Sys2Proof.Machine

/-- R135: a host that wants a wholly well formed frame "must issue CI.PVER ... and CI.VAL ... and take the
conjunction". -/
def frameAccepted (p : Params) (f : Frame) : Bool := (ciPver f).isOk && (ciVal p f).isOk

end Sys2Proof.Machine
end

