-- ==== Sys2Proof/Machine/Respond.lean ====
section
/-! DEFINITION. The block as one pure function (10_state.md R20): "A model's step is a function
`exec : Params -> Request -> Response`". A request is the operation select with the contents of the operand ports (R26).
The machine's step answers every request with this function; that is stated, not assumed. -/

namespace Sys2Proof.Machine

/-- The response to a request, by the table of R70 and R71. -/
def respond (p : Params) (sel : Nibble) (x : Operands) : Response :=
  match Hex.ofNibble sel with
  | .x0 => (mtChk x.v).map .messageType
  | .x1 => (grpChk p x.v).map .group
  | .x2 => (umpMt x.w).map .messageType
  | .x3 => (umpGrp p x.w).map .group
  | .x4 => (umpLen x.w).map .words
  | .x5 => (m1Sval x.sb).map .statusByte
  | .x6 => (m1Class x.sb).map .message
  | .x7 => (m1Ndb p x.sb).map .dataBytes
  | .x8 => (m1Dval x.db).map .dataByte
  | .x9 => (ciPtype x.n).map .protocolType
  | .xA => (ciPver x.n).map .protocolVersion
  | .xB => (ciVal p x.n).map fun _ => .unit
  | .xC => (ciExt x.n).map .extensions
  | .xD | .xE | .xF => illegalOp

end Sys2Proof.Machine
end

