-- ==== Sys2Proof/Machine/StreamWalk.lean ====
section
/-! DEFINITION. The host's walk over a stream of words (41_ump_header.md R106, R107, 10_state.md R27). Not an operation
of the block: the cursor is host state. It asks `UMP.LEN` on the first word of a packet before it skips any following
word, which is the duty of 70_reset_and_hazards.md R185. -/

namespace Sys2Proof.Machine

/-- What the host presents on the packet port at cursor `cur`: "W[1..3] <- S[cur+1 .. cur+3] where present, else any
value" (R106). The any-value is the argument `filler`, a word for each cursor and each word of the port, so that the host may
drive another value each time. -/
def streamPacket (filler : Nat → Nat → Word) (S : List Word) (cur : Nat) : Packet :=
  { w0 := S.getD cur (filler cur 0), w1 := S.getD (cur + 1) (filler cur 1), w2 := S.getD (cur + 2) (filler cur 2),
    w3 := S.getD (cur + 3) (filler cur 3) }

/-- One packet of the walk: where it starts, the length the header asks for, the answers of `UMP.MT` and `UMP.GRP`
(program P1 records them), and the host's own check that the stream holds that many words (R107). That the walk returns
these is the model's choice (DESIGN CHOICE, log entry 14; safe). -/
structure WalkedPacket where
  start : Nat
  words : Nat
  messageType : Result MessageType
  group : Result Nat
  truncated : Bool
  deriving DecidableEq, Repr

/-- R106: "repeats while cur < len". `fuel` bounds the repetitions; the answer is the packets found and the cursor
where the walk ended. A walk stops where `UMP.LEN` fails, which it never does (R103). -/
def walkFrom (p : Params) (filler : Nat → Nat → Word) (S : List Word) (fuel cur : Nat) : List WalkedPacket × Nat :=
  match fuel with
  | 0 => ([], cur)
  | k + 1 =>
    if cur < S.length then
      match umpLen (streamPacket filler S cur) with
      | .err _ _ => ([], cur)
      | .ok n =>
        let found := walkFrom p filler S k (cur + n)
        ({ start := cur, words := n, messageType := umpMt (streamPacket filler S cur),
           group := umpGrp p (streamPacket filler S cur), truncated := decide (S.length < cur + n) } :: found.1, found.2)
    else ([], cur)

/-- The walk of a whole stream, cursor initially 0 (R106). Every packet takes at least one word, so the stream's length
is fuel enough. -/
def walkStream (p : Params) (filler : Nat → Nat → Word) (S : List Word) : List WalkedPacket × Nat :=
  walkFrom p filler S S.length 0

/-- Words from wire bytes, four at a time, and the bytes left over. How four bytes form a word is the host parameter
`HOST_WORD_PACKING`, left open by the spec (R44, D16), so it is an argument (log entry 19). The spec does not say how a
byte stream is cut either (N6 of 91_not_in_source.md): that each four consecutive bytes from the start make one word by the same
function, and that one to three trailing bytes make none and are returned, is DESIGN CHOICE, log entry 22; unsafe for claims
about other hosts. -/
def wordsOfBytes (pack : Byte → Byte → Byte → Byte → Word) : List Byte → List Word × List Byte
  | a :: b :: c :: d :: rest =>
    let found := wordsOfBytes pack rest
    (pack a b c d :: found.1, found.2)
  | left => ([], left)

end Sys2Proof.Machine
end

