-- ==== Sys2Proof/Safety.lean ====
section
/-! DEFINITION. What claims about runs are stated in: the legal response port, the legal answers of each operation, the
invariant of every run, the bits each operation reads. -/

namespace Sys2Proof.Machine

/-- R30, R151, R162: the combinations the response port can show. `code` and `info` are 0 when `ok` = 1, `res` is 0 when
`ok` = 0, codes 10 to 14 are never driven, `info` is 2, 3 or 4 exactly for `ReservedByteViolation`. The pair
`ok` = 0, `code` = 0 stands before the first response only (log entry 4). -/
def ResponsePort.legal (r : ResponsePort) : Bool :=
  if r.ok then decide (r.code = 0#4 ∧ r.info = 0#3)
  else
    decide (r.res = 0x00#8) && decide (r.code.toNat ≤ 9 ∨ r.code = 15#4) &&
      if r.code = 7#4 then decide (r.info = 2#3 ∨ r.info = 3#3 ∨ r.info = 4#3) else decide (r.info = 0#3)

/-- R152: the errors each operation can return, with the `info` of R150. `CI.VAL` reports byte 2 only in a build with
`STRICT_EXT_RESERVED` (R150, R136). -/
def legalError (p : Params) (sel : Nibble) (e : ErrorName) (i : BitVec 3) : Bool :=
  match Hex.ofNibble sel with
  | .x0 => decide (e = .malformedHeader ∧ i = 0#3)
  | .x1 => decide (e = .invalidGroup ∧ i = 0#3)
  | .x2 | .x3 | .x4 => false
  | .x5 | .x6 => decide (e = .invalidStatusByte ∧ i = 0#3)
  | .x7 => decide ((e = .invalidStatusByte ∨ e = .unresolvedDataByteCount) ∧ i = 0#3)
  | .x8 => decide (e = .invalidDataByte ∧ i = 0#3)
  | .x9 => decide (e = .unrecognizedProtocolType ∧ i = 0#3)
  | .xA => decide ((e = .unrecognizedProtocolVersion ∨ e = .unrecognizedProtocolType) ∧ i = 0#3)
  | .xB => decide (e = .reservedByteViolation ∧ (i = 2#3 ∧ p.strictExtReserved = true ∨ i = 3#3 ∨ i = 4#3))
  | .xC => decide ((e = .unrecognizedProtocolType ∨ e = .extensionsNotApplicable) ∧ i = 0#3)
  | .xD | .xE | .xF => decide (e = .illegalOp ∧ i = 0#3)

/-- The values each operation can return: the type of R70 and the ranges of R12, R93, R102, R103, R111, R113, R114. A group
that `GRP.CHK` accepts is at most the build's `GROUP_MAX`. -/
def legalValue (p : Params) (sel : Nibble) (v : Value) : Bool :=
  match Hex.ofNibble sel, v with
  | .x0, .messageType _ => true
  | .x1, .group g => decide (g ≤ groupBound p)
  | .x2, .messageType _ => true
  | .x3, .group g => decide (g ≤ 15)
  | .x4, .words n => decide (1 ≤ n ∧ n ≤ 4)
  | .x5, .statusByte b => b.getLsbD 7
  | .x6, .message _ => true
  | .x7, .dataBytes (.fixed n) => decide (n ≤ 2)
  | .x7, .dataBytes .untilEox => true
  | .x8, .dataByte b => !b.getLsbD 7
  | .x9, .protocolType _ => true
  | .xA, .protocolVersion _ => true
  | .xB, .unit => true
  | .xC, .extensions _ => true
  | _, _ => false

/-- Whether an answer is one its operation can give in a build with these parameters. -/
def Answer.legal (p : Params) (a : Answer) : Bool :=
  match a.response with
  | .ok v => legalValue p a.sel v
  | .err e i => legalError p a.sel e i

/-- What the response port shows after the answers taken: the last one, or nothing yet. -/
def portAfter (log : List Answer) : ResponsePort :=
  match log.getLast? with
  | none => ResponsePort.quiet
  | some a => a.response.port

/-- The invariant of every run. -/
structure State.Inv (s : State) : Prop where
  /-- The port shows a legal combination. -/
  portLegal : s.resp.legal = true
  /-- Every answer taken is one its operation can give under the parameters. -/
  answersLegal : ∀ a ∈ s.log, a.legal s.params = true
  /-- R30: the port shows the response of the last request. -/
  portShowsLast : s.resp = portAfter s.log

/-- How many responses the block gives to a transaction: one to a request (R10), and one for each operation that reads
the port of a presented value (log entry 5). -/
def Transaction.answers : Transaction → Nat
  | .request _ _ => 1
  | .header _ => 3
  | .byte _ => 4
  | .frame _ => 4

/-- R47: the operand bits an operation reads, as numbers. -/
def readBits (p : Params) (sel : Nibble) (x : Operands) : List Nat :=
  match Hex.ofNibble sel with
  | .x0 | .x1 => [x.v.toNat]
  | .x2 | .x4 => [(bits x.w.w0 31 28).toNat]
  | .x3 => [(bits x.w.w0 27 24).toNat]
  | .x5 | .x6 | .x7 => [x.sb.toNat]
  | .x8 => [x.db.toNat]
  | .x9 => [x.n.n0.toNat]
  | .xA => [x.n.n1.toNat, x.n.n0.toNat]
  | .xB => if p.strictExtReserved then [x.n.n3.toNat, x.n.n4.toNat, (bits x.n.n2 7 2).toNat]
           else [x.n.n3.toNat, x.n.n4.toNat]
  | .xC => [x.n.n0.toNat, (bits x.n.n2 1 0).toNat]
  | .xD | .xE | .xF => []

end Sys2Proof.Machine
end

