-- ==== Sys2Proof/Certificates/Slice0/Obligations.lean ====
section
/-! DEFINITION. The statements for the provers. The tables below are written out again from the spec, so that a statement
does not rest on the model's own table. Operation codes, error numbers and result packing are the spec's own decisions
D3, D4, D5; a statement that shows one of them says so. -/

open Sys2Proof Sys2Proof.Machine

/-- R61 and R104 as rows: the message type code, its tag, the packet length in words. -/
def Sys2Proof.headerTable : List (Nat × MessageType × Nat) :=
  [(0x0, .utility, 1), (0x1, .systemRealTimeAndCommon, 1), (0x2, .midi1ChannelVoice, 1),
   (0x3, .dataInclSystemExclusive, 2), (0x4, .midi2ChannelVoice, 2), (0x5, .data, 4), (0x6, .reserved6, 1),
   (0x7, .reserved7, 1), (0x8, .reserved8, 2), (0x9, .reserved9, 2), (0xA, .reservedA, 2), (0xB, .reservedB, 3),
   (0xC, .reservedC, 3), (0xD, .reservedD, 4), (0xE, .reservedE, 4), (0xF, .reservedF, 4)]

/-- R63 and R115 as rows: the high nibble, its tag, the data-byte count. -/
def Sys2Proof.channelTable : List (Nat × ChannelMessage × Nat) :=
  [(0x8, .noteOff, 2), (0x9, .noteOn, 2), (0xA, .polyphonicKeyPressureOrAftertouch, 2),
   (0xB, .controlChangeOrChannelMode, 2), (0xC, .programChange, 1), (0xD, .channelPressureOrAftertouch, 1),
   (0xE, .pitchBendChange, 2)]

/-- R117 as rows: the status byte and the answer of `M1.NDB` when `SYSCOMMON_RESOLVE` is true. -/
def Sys2Proof.systemCommonTable : List (Nat × Result DataBytes) :=
  [(0xF1, .ok (.fixed 1)), (0xF2, .ok (.fixed 2)), (0xF3, .ok (.fixed 1)), (0xF4, .err .unresolvedDataByteCount 0#3),
   (0xF5, .err .unresolvedDataByteCount 0#3), (0xF6, .ok (.fixed 0)), (0xF7, .ok (.fixed 0))]

/-- R151 as rows (D4). -/
def Sys2Proof.errorTable : List (ErrorName × Nat) :=
  [(.malformedHeader, 1), (.invalidGroup, 2), (.invalidStatusByte, 3), (.invalidDataByte, 4),
   (.unrecognizedProtocolType, 5), (.unrecognizedProtocolVersion, 6), (.reservedByteViolation, 7),
   (.extensionsNotApplicable, 8), (.unresolvedDataByteCount, 9), (.illegalOp, 15)]

/-- R75, the rows of `MT.CHK` and `UMP.MT`: the tag and the number that `res` carries. -/
def Sys2Proof.messageTypePacking : List (Value × Nat) :=
  [(.messageType .utility, 0x00), (.messageType .systemRealTimeAndCommon, 0x01), (.messageType .midi1ChannelVoice, 0x02),
   (.messageType .dataInclSystemExclusive, 0x03), (.messageType .midi2ChannelVoice, 0x04), (.messageType .data, 0x05),
   (.messageType .reserved6, 0x06), (.messageType .reserved7, 0x07), (.messageType .reserved8, 0x08),
   (.messageType .reserved9, 0x09), (.messageType .reservedA, 0x0A), (.messageType .reservedB, 0x0B),
   (.messageType .reservedC, 0x0C), (.messageType .reservedD, 0x0D), (.messageType .reservedE, 0x0E),
   (.messageType .reservedF, 0x0F)]

/-- R75, the rows of `M1.CLASS`. -/
def Sys2Proof.messagePacking : List (Value × Nat) :=
  [(.message (.channel .noteOff), 0x08), (.message (.channel .noteOn), 0x09),
   (.message (.channel .polyphonicKeyPressureOrAftertouch), 0x0A), (.message (.channel .controlChangeOrChannelMode), 0x0B),
   (.message (.channel .programChange), 0x0C), (.message (.channel .channelPressureOrAftertouch), 0x0D),
   (.message (.channel .pitchBendChange), 0x0E), (.message (.system .common), 0x80), (.message (.system .realTime), 0x81),
   (.message (.system .exclusive), 0x82)]

/-- R75, the row `UntilEox` of `M1.NDB`, and the rows of unit U2. -/
def Sys2Proof.namedPacking : List (Value × Nat) :=
  [(.dataBytes .untilEox, 0x80), (.protocolType .midi1, 0x01), (.protocolType .midi2, 0x02),
   (.protocolVersion .midi1, 0x01), (.protocolVersion .midi2v1, 0x02), (.unit, 0x00),
   (.extensions { jitterReduction := false, largePackets := false }, 0b00),
   (.extensions { jitterReduction := true, largePackets := false }, 0b01),
   (.extensions { jitterReduction := false, largePackets := true }, 0b10),
   (.extensions { jitterReduction := true, largePackets := true }, 0b11)]

/-- R75 as rows, for the operations whose values are named. The rows of `GRP.CHK`, `UMP.GRP`, `UMP.LEN`, `M1.SVAL`, `M1.DVAL`
and `Fixed(n)` carry the number itself (D5). -/
def Sys2Proof.packingTable : List (Value × Nat) := messageTypePacking ++ messagePacking ++ namedPacking

/-- R30: the port of a successful response whose value packs to `n`. -/
def Sys2Proof.okPort (n : Nat) : ResponsePort := { ok := true, code := 0#4, info := 0#3, res := BitVec.ofNat 8 n }

/-- R30, R162: the port of a failed response with this error number and `info`. -/
def Sys2Proof.errPort (code info : Nat) : ResponsePort :=
  { ok := false, code := BitVec.ofNat 4 code, info := BitVec.ofNat 3 info, res := 0#8 }

/-- R92: the port after `MT.CHK`. -/
def Sys2Proof.mtChkPort (v : Nat) : ResponsePort := if v ≤ 15 then okPort v else errPort 1 0

/-- R93: the port after `GRP.CHK`. -/
def Sys2Proof.grpChkPort (g : GroupMax) (v : Nat) : ResponsePort :=
  if v ≤ 15 ∨ v = 16 ∧ g = .max16 then okPort v else errPort 2 0

/-- R103, R104: the port after `UMP.LEN`, from the type code. -/
def Sys2Proof.umpLenPort (c : Nat) : ResponsePort :=
  if c ≤ 0x2 ∨ c = 0x6 ∨ c = 0x7 then okPort 1
  else if c = 0x3 ∨ c = 0x4 ∨ c = 0x8 ∨ c = 0x9 ∨ c = 0xA then okPort 2
  else if c = 0xB ∨ c = 0xC then okPort 3
  else okPort 4

/-- R111: the port after `M1.SVAL`. -/
def Sys2Proof.m1SvalPort (sb : Nat) : ResponsePort := if 0x80 ≤ sb then okPort sb else errPort 3 0

/-- R112: the port after `M1.CLASS`. -/
def Sys2Proof.m1ClassPort (sb : Nat) : ResponsePort :=
  if sb < 0x80 then errPort 3 0
  else if sb < 0xF0 then okPort (sb / 16)
  else if sb = 0xF0 then okPort 0x82
  else if sb ≤ 0xF7 then okPort 0x80
  else okPort 0x81

/-- R113, R115, R117: the port after `M1.NDB`. -/
def Sys2Proof.m1NdbPort (resolve : Bool) (sb : Nat) : ResponsePort :=
  if sb < 0x80 then errPort 3 0
  else if 0xC0 ≤ sb ∧ sb < 0xE0 then okPort 1
  else if sb < 0xF0 then okPort 2
  else if sb = 0xF0 then okPort 0x80
  else if 0xF8 ≤ sb then okPort 0
  else if resolve = false ∨ sb = 0xF4 ∨ sb = 0xF5 then errPort 9 0
  else if sb = 0xF1 ∨ sb = 0xF3 then okPort 1
  else if sb = 0xF2 then okPort 2
  else okPort 0

/-- R114: the port after `M1.DVAL`. -/
def Sys2Proof.m1DvalPort (db : Nat) : ResponsePort := if db < 0x80 then okPort db else errPort 4 0

/-- R131: the port after `CI.PTYPE`. -/
def Sys2Proof.ciPtypePort (n0 : Nat) : ResponsePort :=
  if n0 = 1 then okPort 1 else if n0 = 2 then okPort 2 else errPort 5 0

/-- R132: the port after `CI.PVER`. -/
def Sys2Proof.ciPverPort (n0 n1 : Nat) : ResponsePort :=
  if n1 ≠ 0 then errPort 6 0 else if n0 = 1 then okPort 1 else if n0 = 2 then okPort 2 else errPort 5 0

/-- R133, R136: the port after `CI.VAL`. -/
def Sys2Proof.ciValPort (strict : Bool) (n2 n3 n4 : Nat) : ResponsePort :=
  if strict = true ∧ n2 / 4 ≠ 0 then errPort 7 2
  else if n3 ≠ 0 then errPort 7 3
  else if n4 ≠ 0 then errPort 7 4
  else okPort 0

/-- R134: the port after `CI.EXT`. -/
def Sys2Proof.ciExtPort (n0 n2 : Nat) : ResponsePort :=
  if n0 = 1 then okPort (n2 % 4) else if n0 = 2 then errPort 8 0 else errPort 5 0

/-- What the response port shows after an instruction, if it answers a next state. -/
def Sys2Proof.portAfterExec (i : Instr) (s : State) : Option ResponsePort :=
  match exec i s with
  | .next t => some t.resp
  | .fault _ => none
  | .refused _ => none

/-- The state after a header word with type code `c`, tag `t` and length `n` words is presented: `W[0]` holds the word,
the port shows the answer of `UMP.LEN`, the record has the answers of `UMP.MT`, `UMP.GRP`, `UMP.LEN`. -/
def Sys2Proof.afterHeaderRow (s : State) (c : Nat) (t : MessageType) (n : Nat) (group : Nibble) (rest : BitVec 24) :
    State :=
  { s with
    opSel := 4#4
    operands :=
      { s.operands with
        w := { s.operands.w with w0 := BitVec.ofNat 32 (c * 2 ^ 28 + group.toNat * 2 ^ 24 + rest.toNat) } }
    resp := { ok := true, code := 0#4, info := 0#3, res := BitVec.ofNat 8 n }
    log := s.log ++
      [{ sel := 2#4, response := .ok (.messageType t) }, { sel := 3#4, response := .ok (.group group.toNat) },
       { sel := 4#4, response := .ok (.words n) }] }

/-- The state after a status byte is presented, which `M1.SVAL` accepts, `M1.CLASS` classifies as `m`, `M1.NDB` answers
with `d`, and `M1.DVAL` rejects. -/
def Sys2Proof.afterStatusRow (s : State) (b : Nat) (m : Message) (d : Result DataBytes) : State :=
  { s with
    opSel := 8#4
    operands := { s.operands with sb := BitVec.ofNat 8 b, db := BitVec.ofNat 8 b }
    resp := { ok := false, code := 4#4, info := 0#3, res := 0#8 }
    log := s.log ++
      [{ sel := 5#4, response := .ok (.statusByte (BitVec.ofNat 8 b)) }, { sel := 6#4, response := .ok (.message m) },
       { sel := 7#4, response := d.map .dataBytes }, { sel := 8#4, response := .err .invalidDataByte 0#3 }] }

/-- The state after a negotiation frame is presented and the four operations of unit U2 have given these answers. -/
def Sys2Proof.afterFrameRow (s : State) (f : Frame) (port : ResponsePort) (t v r e : Response) : State :=
  { s with
    opSel := 12#4
    operands := { s.operands with n := f }
    resp := port
    log := s.log ++
      [{ sel := 9#4, response := t }, { sel := 10#4, response := v }, { sel := 11#4, response := r },
       { sel := 12#4, response := e }] }

/-! ### Encoding -/

/-- Decode and encode agree: every well-formed instruction, with every operand at every value, is read back from its
own bits. The formats are R60 to R65 and R70 to R72; the numbering of format OP is the spec's decision D3. -/
def Obligations.DecodeOfEncodeIsTheInstruction : Prop :=
  ∀ i : Instr, i.wf = true → decode (encode i) = .ok i

/-- Each value of a format has one meaning: an instruction read from it is well formed and encodes to it again
(R77: the rows of a format are disjoint). -/
def Obligations.EncodeOfDecodeIsTheWord : Prop :=
  ∀ (c : Code) (i : Instr), decode c = .ok i → encode i = c ∧ i.wf = true

/-- Nine words, written out from the tables of 30_encoding.md (R60, R63, R64, R65, R70) and 95_test_vectors.md, decode to their
instructions, and a frame that is no row is rejected by the name of its first error, which is the model's reading (log
entry 10). The numbering of format OP is the spec's decision D3. -/
def Obligations.SampleWordsDecode : Prop :=
  decode (.op 0b0100#4) = .ok .umpLen ∧
  decode (.op 0b1111#4) = .ok .opRsvdF ∧
  decode (.header 0b00101010100100000011110001111111#32) = .ok (.umpMidi1ChannelVoice 0xA#4 0x903C7F#24) ∧
  decode (.header 0b10110100000000000000000000000000#32) = .ok (.umpReservedB 0x4#4 0x000000#24) ∧
  decode (.byte 0b00111100#8) = .ok (.m1Data 0b0111100#7) ∧
  decode (.byte 0b10110011#8) = .ok (.m1ControlChangeOrChannelMode 0x3#4) ∧
  decode (.byte 0b11110111#8) = .ok .m1SystemCommonF7 ∧
  decode (.byte 0b11111000#8) = .ok (.m1SystemRealTime 0x8#4) ∧
  decode (.frame { n0 := 0x01#8, n1 := 0x00#8, n2 := 0x03#8, n3 := 0x00#8, n4 := 0x00#8 }) = .ok (.negMidi1 0x03#8) ∧
  decode (.frame { n0 := 0x03#8, n1 := 0x00#8, n2 := 0x00#8, n3 := 0x00#8, n4 := 0x00#8 }) =
    .error .unrecognizedProtocolType

/-- The rows of format NEG5 are the frames a host accepts by R135, under the default strictness: those that `CI.PVER` and
`CI.VAL` both accept. (That the rows are these frames is the source column of the table.) -/
def Obligations.NegotiationRowsAreTheAcceptedFrames : Prop :=
  ∀ (p : Params) (f : Frame), p.strictExtReserved = false →
    ((∃ i, decode (.frame f) = .ok i) ↔ frameAccepted p f = true)

/-! ### The step -/

/-- A step runs the instruction that the next transaction decodes to, after taking the transaction off the list and, for a
request, driving the operation select and the ports it carries (R26). That the host's coming transactions are a list in the
state, and that a step with none pending changes nothing, is the model's choice (log entry 8). -/
def Obligations.StepRunsTheDecodedInstruction : Prop :=
  ∀ (s : State) (i : Instr) (rest : List Transaction),
    (∀ sel x, s.pending = .request sel x :: rest → decode (.op sel) = .ok i →
      step s = exec i { s with opSel := sel, operands := x, pending := rest }) ∧
    (∀ w0, s.pending = .header w0 :: rest → decode (.header w0) = .ok i →
      step s = exec i { s with pending := rest }) ∧
    (∀ b, s.pending = .byte b :: rest → decode (.byte b) = .ok i → step s = exec i { s with pending := rest }) ∧
    (∀ f, s.pending = .frame f :: rest → decode (.frame f) = .ok i → step s = exec i { s with pending := rest }) ∧
    (s.pending = [] → step s = .next s)

/-- A word of spec/opcode_table.json placed by `withFetchWord` is what the next step runs, with the state otherwise as
it was. The numbering and the placing are the model's choices (log entries 8 and 11). -/
def Obligations.PlacedWordIsRunNext : Prop :=
  ∀ (s : State) (nbits w : Nat) (i : Instr), decodeTableWord nbits w = some i →
    step (s.withFetchWord nbits w) = exec i s

/-- A frame that is no row of the table is presented all the same: the port `N` holds it and the four operations of unit
U2 answer it as R20's function says (the model's choice, log entries 5 and 10, after R137). -/
def Obligations.UnlistedFramesAreAnswered : Prop :=
  ∀ (s : State) (f : Frame) (rest : List Transaction) (e : DecodeError),
    s.pending = .frame f :: rest → decode (.frame f) = .error e →
    ∃ port, step s = .next (afterFrameRow { s with pending := rest } f port
      (respond s.params 9#4 (s.operands.withFrame f)) (respond s.params 10#4 (s.operands.withFrame f))
      (respond s.params 11#4 (s.operands.withFrame f)) (respond s.params 12#4 (s.operands.withFrame f))) ∧
      port = (respond s.params 12#4 (s.operands.withFrame f)).port

/-- R154: every instruction and every step has an outcome, and it is a next state, so nothing stops the block; and every
request, whatever its operation and operands, gets a response, which the host records. The record and the list of pending
transactions are the model's choices (log entries 1 and 8), and so is what the rows of formats UMPW0, M1BYTE and NEG5 do as
instructions (log entry 5; log entry 10 for a frame that is no row). -/
def Obligations.NothingStopsTheBlock : Prop :=
  (∀ (i : Instr) (s : State), ∃ t, exec i s = .next t) ∧ (∀ s : State, ∃ t, step s = .next t) ∧
  ∀ (s : State) (sel : Nibble) (x : Operands) (rest : List Transaction), s.pending = .request sel x :: rest →
    ∃ t r, step s = .next t ∧ t.log = s.log ++ [{ sel := sel, response := r }] ∧ t.resp = r.port

/-- Every pending transaction is served: after as many steps as there are transactions none is left, the parameters are the
same, and the record has grown, at its end only, by one answer for each request and one for each operation that reads
a presented value's port (R154). The list of pending transactions is the model's choice (log entry 8), and so are the record
(log entry 1) and the answers of presented values (log entry 5). -/
def Obligations.EveryPendingTransactionIsAnswered : Prop :=
  ∀ s : State, ∃ t, Host.Core.run core s.pending.length s = .next t ∧ t.pending = [] ∧ t.params = s.params ∧
    s.log <+: t.log ∧ t.log.length = s.log.length + (s.pending.map Transaction.answers).sum

/-- R20: the step of a request is the pure function `Params -> Request -> Response`: the answer is `respond` of the
parameters and the request, and nothing else of the state has a part in it. The record and the list of pending
transactions are the model's (log entries 1 and 8). -/
def Obligations.RequestsAreAnsweredByThePureFunction : Prop :=
  ∀ (s : State) (sel : Nibble) (x : Operands) (rest : List Transaction),
    s.pending = .request sel x :: rest →
    step s = .next { s with
      opSel := sel, operands := x, pending := rest
      resp := (respond s.params sel x).port
      log := s.log ++ [{ sel := sel, response := respond s.params sel x }] }

/-! ### Invariants -/

/-- From every state that meets it, a step keeps the invariant: the port shows a legal combination (R30, R151), every
answer taken is one its operation can give under the parameters of the build (R152, R70, R12, R150), and the port shows the
last answer (R30). What stands on the port before the first answer, and the record of answers, are the model's choices (log
entries 4 and 1). -/
def Obligations.StepKeepsLegalAnswers : Prop :=
  ∀ s t : State, s.Inv → step s = .next t → t.Inv

/-- The invariant holds after reset. What the port shows then and the empty record are the model's choices (log entries 4 and
1). -/
def Obligations.ResetHasLegalAnswers : Prop := State.reset.Inv

/-- The state after reset, each conjunct by the model's choice. R33 says the parameters hold their built value, and that the
build is the one with the defaults of R6 is log entry 2. The list of pending transactions is empty (log entry 8), and so is the
record (log entry 1). The zeros on the operand ports are log entry 3, those on the response port and the operation select
log entry 4: the spec leaves the ports unspecified (R33). -/
def Obligations.ResetHoldsTheNamedValues : Prop :=
  State.reset.params = { groupMax := .max15, sysCommonResolve := false, strictExtReserved := false } ∧
  State.reset.pending = [] ∧ State.reset.log = [] ∧
  State.reset.resp = { ok := false, code := 0#4, info := 0#3, res := 0#8 } ∧ State.reset.opSel = 0#4 ∧
  State.reset.operands =
    { w := { w0 := 0#32, w1 := 0#32, w2 := 0#32, w3 := 0#32 }, v := 0#8, sb := 0#8, db := 0#8,
      n := { n0 := 0#8, n1 := 0#8, n2 := 0#8, n3 := 0#8, n4 := 0#8 } }

/-- No step changes a parameter (R29). No answer taken is changed or lost, by the model's choice of the record (log entry 1),
and exactly the first pending transaction is gone, by its choice of the list (log entry 8). -/
def Obligations.StepKeepsParametersAndRecord : Prop :=
  ∀ s t : State, step s = .next t → t.params = s.params ∧ s.log <+: t.log ∧ t.pending = s.pending.tail

/-! ### Purity and independence -/

/-- R47: an operation reads only the bits listed for it, and its result depends on no others. -/
def Obligations.ResponseDependsOnlyOnTheListedBits : Prop :=
  ∀ (p : Params) (sel : Nibble) (x y : Operands), readBits p sel x = readBits p sel y →
    respond p sel x = respond p sel y

/-- R49 (b): if the host presents the same transactions in another order, the same answers come, in another order.
The list of transactions, the answers of presented values and the record are the model's choices (log entries 8, 5 and 1). -/
def Obligations.ReorderedTransactionsGetTheSameAnswers : Prop :=
  ∀ (s : State) (l : List Transaction), l.Perm s.pending →
    ∃ t u, Host.Core.run core s.pending.length s = .next t ∧
      Host.Core.run core l.length { s with pending := l } = .next u ∧ u.log.Perm t.log

/-- R48: issuing the same request twice gives the same response twice, the port standing as after the first. The record and
the list of pending transactions are the model's (log entries 1 and 8). -/
def Obligations.RepeatedRequestsGetTheSameResponse : Prop :=
  ∀ (s : State) (sel : Nibble) (x : Operands) (rest : List Transaction),
    s.pending = .request sel x :: .request sel x :: rest →
    ∃ t u a, Host.Core.run core 1 s = .next t ∧ Host.Core.run core 2 s = .next u ∧
      t.log = s.log ++ [a] ∧ u.log = s.log ++ [a, a] ∧ u.resp = t.resp

/-- R163: a request after another one, failed or not, is handled exactly as if that one had not been issued: all of the
state but the host's record is the same, and so is the answer the record ends with (the record and the list of pending
transactions are the model's, log entries 1 and 8). -/
def Obligations.AnEarlierRequestLeavesNoTrace : Prop :=
  ∀ (s : State) (sel sel' : Nibble) (x x' : Operands) (rest : List Transaction),
    s.pending = .request sel x :: .request sel' x' :: rest →
    ∃ t u, Host.Core.run core 2 s = .next t ∧
      Host.Core.run core 1 { s with pending := .request sel' x' :: rest } = .next u ∧
      { t with log := u.log } = u ∧ t.log.getLast? = u.log.getLast?

/-! ### Operations on the raw-value port -/

/-- R92: `MT.CHK` rejects every value above 15 and answers the tag of R61 for every other. That the operation exists and
that `V` has 8 bits are the spec's decision D7. -/
def Obligations.MessageTypeCheck : Prop :=
  ∀ s : State,
    (s.operands.v.toNat > 15 → exec .mtChk s = .next (s.answer 0#4 (.err .malformedHeader 0#3))) ∧
    ∀ c t n, (c, t, n) ∈ headerTable → s.operands.v.toNat = c →
      exec .mtChk s = .next (s.answer 0#4 (.ok (.messageType t)))

/-- R93: `GRP.CHK` under both admitted values of `GROUP_MAX`; they differ on the value 16 only (the spec's D6, D7). -/
def Obligations.GroupCheck : Prop :=
  ∀ s : State,
    (s.operands.v.toNat ≤ 15 → exec .grpChk s = .next (s.answer 1#4 (.ok (.group s.operands.v.toNat)))) ∧
    (s.operands.v.toNat = 16 → s.params.groupMax = .max15 →
      exec .grpChk s = .next (s.answer 1#4 (.err .invalidGroup 0#3))) ∧
    (s.operands.v.toNat = 16 → s.params.groupMax = .max16 →
      exec .grpChk s = .next (s.answer 1#4 (.ok (.group 16)))) ∧
    (s.operands.v.toNat ≥ 17 → exec .grpChk s = .next (s.answer 1#4 (.err .invalidGroup 0#3)))

/-- R94: a nibble always validates, whatever the parameters. -/
def Obligations.NibblesAlwaysValidate : Prop :=
  ∀ (p : Params) (k : Nibble), (∃ t, mtChk (zext8 k) = .ok t) ∧ grpChk p (zext8 k) = .ok k.toNat

/-! ### Header operations -/

/-- R101, R61: `UMP.MT` answers the tag of bits 31..28 of `W[0]` and never fails. The order of the codes 0x0 to 0x5 is the
spec's derivation (R61). -/
def Obligations.HeaderMessageType : Prop :=
  ∀ (s : State) (c : Nat) (t : MessageType) (n : Nat), (c, t, n) ∈ headerTable → s.operands.w.w0.toNat / 2 ^ 28 = c →
    exec .umpMt s = .next (s.answer 2#4 (.ok (.messageType t)))

/-- R102: `UMP.GRP` answers bits 27..24 of `W[0]`, for every message type and both values of `GROUP_MAX`; it never
fails. -/
def Obligations.HeaderGroup : Prop :=
  ∀ s : State, exec .umpGrp s = .next (s.answer 3#4 (.ok (.group (s.operands.w.w0.toNat / 2 ^ 24 % 16))))

/-- R103, R104: `UMP.LEN` answers the length in words that bits 31..28 of `W[0]` select, and never fails. The lengths are the
table of R104; the order of the codes 0x0 to 0x5 is the spec's derivation (R61). -/
def Obligations.HeaderPacketLength : Prop :=
  ∀ (s : State) (c : Nat) (t : MessageType) (n : Nat), (c, t, n) ∈ headerTable → s.operands.w.w0.toNat / 2 ^ 28 = c →
    exec .umpLen s = .next (s.answer 4#4 (.ok (.words n)))

/-- R153: no operand and no parameter makes a header operation fail, and the length is always 1, 2, 3 or 4. -/
def Obligations.HeaderOperationsNeverFail : Prop :=
  ∀ (p : Params) (w : Packet), (umpMt w).isOk = true ∧ (umpGrp p w).isOk = true ∧
    ∃ n, umpLen w = .ok n ∧ (n = 1 ∨ n = 2 ∨ n = 3 ∨ n = 4)

/-! ### Operations on MIDI 1.0 bytes -/

/-- R111: `M1.SVAL` looks at bit 7 alone. That success returns the byte is the spec's decision D24. -/
def Obligations.StatusByteValidation : Prop :=
  ∀ s : State,
    (s.operands.sb.toNat < 0x80 → exec .m1Sval s = .next (s.answer 5#4 (.err .invalidStatusByte 0#3))) ∧
    (0x80 ≤ s.operands.sb.toNat → exec .m1Sval s = .next (s.answer 5#4 (.ok (.statusByte s.operands.sb))))

/-- R112, R63, R64: `M1.CLASS` over the whole byte space. The error on a byte with bit 7 clear is the spec's decision D8;
the pairing of nibble and tag is by list order (R63). -/
def Obligations.StatusByteClassification : Prop :=
  ∀ s : State,
    (s.operands.sb.toNat < 0x80 → exec .m1Class s = .next (s.answer 6#4 (.err .invalidStatusByte 0#3))) ∧
    (∀ h t n, (h, t, n) ∈ channelTable → s.operands.sb.toNat / 16 = h →
      exec .m1Class s = .next (s.answer 6#4 (.ok (.message (.channel t))))) ∧
    (s.operands.sb.toNat = 0xF0 → exec .m1Class s = .next (s.answer 6#4 (.ok (.message (.system .exclusive))))) ∧
    (0xF1 ≤ s.operands.sb.toNat → s.operands.sb.toNat ≤ 0xF7 →
      exec .m1Class s = .next (s.answer 6#4 (.ok (.message (.system .common))))) ∧
    (0xF8 ≤ s.operands.sb.toNat → exec .m1Class s = .next (s.answer 6#4 (.ok (.message (.system .realTime)))))

/-- R113, R115, R117: `M1.NDB` over the whole byte space, under both settings of `SYSCOMMON_RESOLVE`. The System Common
counts of the true setting are from general knowledge (the spec's G1 and D9; log entry 15). -/
def Obligations.DataByteCount : Prop :=
  ∀ s : State,
    (s.operands.sb.toNat < 0x80 → exec .m1Ndb s = .next (s.answer 7#4 (.err .invalidStatusByte 0#3))) ∧
    (∀ h t n, (h, t, n) ∈ channelTable → s.operands.sb.toNat / 16 = h →
      exec .m1Ndb s = .next (s.answer 7#4 (.ok (.dataBytes (.fixed n))))) ∧
    (s.operands.sb.toNat = 0xF0 → exec .m1Ndb s = .next (s.answer 7#4 (.ok (.dataBytes .untilEox)))) ∧
    (0xF1 ≤ s.operands.sb.toNat → s.operands.sb.toNat ≤ 0xF7 → s.params.sysCommonResolve = false →
      exec .m1Ndb s = .next (s.answer 7#4 (.err .unresolvedDataByteCount 0#3))) ∧
    (∀ b r, (b, r) ∈ systemCommonTable → s.operands.sb.toNat = b → s.params.sysCommonResolve = true →
      exec .m1Ndb s = .next (s.answer 7#4 (r.map .dataBytes))) ∧
    (0xF8 ≤ s.operands.sb.toNat → exec .m1Ndb s = .next (s.answer 7#4 (.ok (.dataBytes (.fixed 0)))))

/-- R114: `M1.DVAL` looks at bit 7 alone. That success returns the byte is the spec's decision D24. -/
def Obligations.DataByteValidation : Prop :=
  ∀ s : State,
    (s.operands.db.toNat < 0x80 → exec .m1Dval s = .next (s.answer 8#4 (.ok (.dataByte s.operands.db)))) ∧
    (0x80 ≤ s.operands.db.toNat → exec .m1Dval s = .next (s.answer 8#4 (.err .invalidDataByte 0#3)))

/-- R114: for every byte exactly one of `M1.SVAL` and `M1.DVAL` returns `Ok`. -/
def Obligations.EveryByteIsStatusOrData : Prop :=
  ∀ b : Byte, (m1Sval b).isOk = !(m1Dval b).isOk

/-! ### Operations on negotiation frames -/

/-- R131: `CI.PTYPE` compares the whole of byte 0. -/
def Obligations.ProtocolTypeOfAFrame : Prop :=
  ∀ s : State,
    (s.operands.n.n0.toNat = 1 → exec .ciPtype s = .next (s.answer 9#4 (.ok (.protocolType .midi1)))) ∧
    (s.operands.n.n0.toNat = 2 → exec .ciPtype s = .next (s.answer 9#4 (.ok (.protocolType .midi2)))) ∧
    (s.operands.n.n0.toNat = 0 ∨ 3 ≤ s.operands.n.n0.toNat →
      exec .ciPtype s = .next (s.answer 9#4 (.err .unrecognizedProtocolType 0#3)))

/-- R132, R161 (a): `CI.PVER` tests byte 1 first (the spec's decision D12), then byte 0. -/
def Obligations.ProtocolVersionOfAFrame : Prop :=
  ∀ s : State,
    (s.operands.n.n1.toNat ≠ 0 → exec .ciPver s = .next (s.answer 10#4 (.err .unrecognizedProtocolVersion 0#3))) ∧
    (s.operands.n.n1.toNat = 0 →
      (s.operands.n.n0.toNat = 1 → exec .ciPver s = .next (s.answer 10#4 (.ok (.protocolVersion .midi1)))) ∧
      (s.operands.n.n0.toNat = 2 → exec .ciPver s = .next (s.answer 10#4 (.ok (.protocolVersion .midi2v1)))) ∧
      (s.operands.n.n0.toNat = 0 ∨ 3 ≤ s.operands.n.n0.toNat →
        exec .ciPver s = .next (s.answer 10#4 (.err .unrecognizedProtocolType 0#3))))

/-- R133, R136, R161 (b): `CI.VAL` reports the lowest violating index (the spec's decision D11), index 2 only under
`STRICT_EXT_RESERVED` (D10); bytes 0 and 1 have no part in it (D14). -/
def Obligations.ReservedBytesOfAFrame : Prop :=
  ∀ s : State,
    (s.params.strictExtReserved = true → s.operands.n.n2.toNat / 4 ≠ 0 →
      exec .ciVal s = .next (s.answer 11#4 (.err .reservedByteViolation 2#3))) ∧
    (s.params.strictExtReserved = false ∨ s.operands.n.n2.toNat / 4 = 0 →
      (s.operands.n.n3.toNat ≠ 0 → exec .ciVal s = .next (s.answer 11#4 (.err .reservedByteViolation 3#3))) ∧
      (s.operands.n.n3.toNat = 0 → s.operands.n.n4.toNat ≠ 0 →
        exec .ciVal s = .next (s.answer 11#4 (.err .reservedByteViolation 4#3))) ∧
      (s.operands.n.n3.toNat = 0 → s.operands.n.n4.toNat = 0 → exec .ciVal s = .next (s.answer 11#4 (.ok .unit))))

/-- R134, R161 (c): `CI.EXT` reads bits 0 and 1 of byte 2 of a Midi1 frame, whatever the other bytes and the strictness; an
unrecognized type keeps its own error (the spec's decision D13). -/
def Obligations.ExtensionFlagsOfAFrame : Prop :=
  ∀ s : State,
    (s.operands.n.n0.toNat = 1 → exec .ciExt s = .next (s.answer 12#4 (.ok (.extensions
      { jitterReduction := decide (s.operands.n.n2.toNat % 2 = 1)
        largePackets := decide (s.operands.n.n2.toNat / 2 % 2 = 1) })))) ∧
    (s.operands.n.n0.toNat = 2 → exec .ciExt s = .next (s.answer 12#4 (.err .extensionsNotApplicable 0#3))) ∧
    (s.operands.n.n0.toNat = 0 ∨ 3 ≤ s.operands.n.n0.toNat →
      exec .ciExt s = .next (s.answer 12#4 (.err .unrecognizedProtocolType 0#3)))

/-! ### Reserved operation codes -/

/-- R71, R161 (e): a reserved code answers `Err(IllegalOp, 0)` whatever the operands hold, and leaves them as they are. The
error and its number are the spec's decisions D3 and D4, that the codes are instructions is log entry 12, the record is
log entry 1. -/
def Obligations.ReservedCodesAnswerIllegalOp : Prop :=
  ∀ s : State,
    exec .opRsvdD s = .next { s with
      opSel := 13#4, resp := { ok := false, code := 15#4, info := 0#3, res := 0#8 }
      log := s.log ++ [{ sel := 13#4, response := .err .illegalOp 0#3 }] } ∧
    exec .opRsvdE s = .next { s with
      opSel := 14#4, resp := { ok := false, code := 15#4, info := 0#3, res := 0#8 }
      log := s.log ++ [{ sel := 14#4, response := .err .illegalOp 0#3 }] } ∧
    exec .opRsvdF s = .next { s with
      opSel := 15#4, resp := { ok := false, code := 15#4, info := 0#3, res := 0#8 }
      log := s.log ++ [{ sel := 15#4, response := .err .illegalOp 0#3 }] }

/-! ### Presented values -/

/-- The sixteen rows of format UMPW0: the tag, the group and the length that R61, R102 and R104 give a word of the row, whatever
its other bits. That presenting a word asks the three operations is the model's choice (log entry 5). -/
def Obligations.HeaderRowsAnswerTheirTable : Prop :=
  ∀ (s : State) (g : Nibble) (r : BitVec 24),
    exec (.umpUtility g r) s = .next (afterHeaderRow s 0x0 .utility 1 g r) ∧
    exec (.umpSystemRealTimeAndCommon g r) s = .next (afterHeaderRow s 0x1 .systemRealTimeAndCommon 1 g r) ∧
    exec (.umpMidi1ChannelVoice g r) s = .next (afterHeaderRow s 0x2 .midi1ChannelVoice 1 g r) ∧
    exec (.umpDataInclSystemExclusive g r) s = .next (afterHeaderRow s 0x3 .dataInclSystemExclusive 2 g r) ∧
    exec (.umpMidi2ChannelVoice g r) s = .next (afterHeaderRow s 0x4 .midi2ChannelVoice 2 g r) ∧
    exec (.umpData g r) s = .next (afterHeaderRow s 0x5 .data 4 g r) ∧
    exec (.umpReserved6 g r) s = .next (afterHeaderRow s 0x6 .reserved6 1 g r) ∧
    exec (.umpReserved7 g r) s = .next (afterHeaderRow s 0x7 .reserved7 1 g r) ∧
    exec (.umpReserved8 g r) s = .next (afterHeaderRow s 0x8 .reserved8 2 g r) ∧
    exec (.umpReserved9 g r) s = .next (afterHeaderRow s 0x9 .reserved9 2 g r) ∧
    exec (.umpReservedA g r) s = .next (afterHeaderRow s 0xA .reservedA 2 g r) ∧
    exec (.umpReservedB g r) s = .next (afterHeaderRow s 0xB .reservedB 3 g r) ∧
    exec (.umpReservedC g r) s = .next (afterHeaderRow s 0xC .reservedC 3 g r) ∧
    exec (.umpReservedD g r) s = .next (afterHeaderRow s 0xD .reservedD 4 g r) ∧
    exec (.umpReservedE g r) s = .next (afterHeaderRow s 0xE .reservedE 4 g r) ∧
    exec (.umpReservedF g r) s = .next (afterHeaderRow s 0xF .reservedF 4 g r)

/-- The row of a data byte: the first line of R118. Presenting on both byte ports and asking the four operations is the
model's choice (log entries 5 and 6). -/
def Obligations.DataByteRowAnswersItsTable : Prop :=
  ∀ (s : State) (d : BitVec 7),
    exec (.m1Data d) s = .next { s with
      opSel := 8#4
      operands := { s.operands with sb := BitVec.ofNat 8 d.toNat, db := BitVec.ofNat 8 d.toNat }
      resp := { ok := true, code := 0#4, info := 0#3, res := BitVec.ofNat 8 d.toNat }
      log := s.log ++
        [{ sel := 5#4, response := .err .invalidStatusByte 0#3 }, { sel := 6#4, response := .err .invalidStatusByte 0#3 },
         { sel := 7#4, response := .err .invalidStatusByte 0#3 },
         { sel := 8#4, response := .ok (.dataByte (BitVec.ofNat 8 d.toNat)) }] }

/-- The seven rows of channel statuses: their lines of R118, whatever the low nibble (log entries 5 and 6). -/
def Obligations.ChannelRowsAnswerTheirTable : Prop :=
  ∀ (s : State) (l : Nibble),
    exec (.m1NoteOff l) s = .next (afterStatusRow s (0x80 + l.toNat) (.channel .noteOff) (.ok (.fixed 2))) ∧
    exec (.m1NoteOn l) s = .next (afterStatusRow s (0x90 + l.toNat) (.channel .noteOn) (.ok (.fixed 2))) ∧
    exec (.m1PolyphonicKeyPressureOrAftertouch l) s =
      .next (afterStatusRow s (0xA0 + l.toNat) (.channel .polyphonicKeyPressureOrAftertouch) (.ok (.fixed 2))) ∧
    exec (.m1ControlChangeOrChannelMode l) s =
      .next (afterStatusRow s (0xB0 + l.toNat) (.channel .controlChangeOrChannelMode) (.ok (.fixed 2))) ∧
    exec (.m1ProgramChange l) s = .next (afterStatusRow s (0xC0 + l.toNat) (.channel .programChange) (.ok (.fixed 1))) ∧
    exec (.m1ChannelPressureOrAftertouch l) s =
      .next (afterStatusRow s (0xD0 + l.toNat) (.channel .channelPressureOrAftertouch) (.ok (.fixed 1))) ∧
    exec (.m1PitchBendChange l) s =
      .next (afterStatusRow s (0xE0 + l.toNat) (.channel .pitchBendChange) (.ok (.fixed 2)))

/-- The nine rows of system statuses: their lines of R118, and of R117 when `SYSCOMMON_RESOLVE` is true (log entries 5, 6
and 15). A real-time row has its low nibble in 0x8 to 0xF. -/
def Obligations.SystemRowsAnswerTheirTable : Prop :=
  ∀ s : State,
    exec .m1SystemExclusive s = .next (afterStatusRow s 0xF0 (.system .exclusive) (.ok .untilEox)) ∧
    (∀ l : Nibble, 8 ≤ l.toNat → exec (.m1SystemRealTime l) s =
      .next (afterStatusRow s (0xF0 + l.toNat) (.system .realTime) (.ok (.fixed 0)))) ∧
    (s.params.sysCommonResolve = false → ∀ i b, (i, b) ∈
        [(Instr.m1SystemCommonF1, 0xF1), (.m1SystemCommonF2, 0xF2), (.m1SystemCommonF3, 0xF3), (.m1SystemCommonF4, 0xF4),
         (.m1SystemCommonF5, 0xF5), (.m1SystemCommonF6, 0xF6), (.m1SystemCommonF7, 0xF7)] →
      exec i s = .next (afterStatusRow s b (.system .common) (.err .unresolvedDataByteCount 0#3))) ∧
    (s.params.sysCommonResolve = true →
      exec .m1SystemCommonF1 s = .next (afterStatusRow s 0xF1 (.system .common) (.ok (.fixed 1))) ∧
      exec .m1SystemCommonF2 s = .next (afterStatusRow s 0xF2 (.system .common) (.ok (.fixed 2))) ∧
      exec .m1SystemCommonF3 s = .next (afterStatusRow s 0xF3 (.system .common) (.ok (.fixed 1))) ∧
      exec .m1SystemCommonF4 s =
        .next (afterStatusRow s 0xF4 (.system .common) (.err .unresolvedDataByteCount 0#3)) ∧
      exec .m1SystemCommonF5 s =
        .next (afterStatusRow s 0xF5 (.system .common) (.err .unresolvedDataByteCount 0#3)) ∧
      exec .m1SystemCommonF6 s = .next (afterStatusRow s 0xF6 (.system .common) (.ok (.fixed 0))) ∧
      exec .m1SystemCommonF7 s = .next (afterStatusRow s 0xF7 (.system .common) (.ok (.fixed 0))))

/-- The two rows of accepted frames: R137 with the strict check of R136 (log entry 5). -/
def Obligations.FrameRowsAnswerTheirTable : Prop :=
  ∀ (s : State) (ext : Byte),
    exec (.negMidi1 ext) s = .next (afterFrameRow s { n0 := 1#8, n1 := 0#8, n2 := ext, n3 := 0#8, n4 := 0#8 }
      { ok := true, code := 0#4, info := 0#3, res := BitVec.ofNat 8 (ext.toNat % 4) }
      (.ok (.protocolType .midi1)) (.ok (.protocolVersion .midi1))
      (if s.params.strictExtReserved = true ∧ ext.toNat / 4 ≠ 0 then .err .reservedByteViolation 2#3 else .ok .unit)
      (.ok (.extensions { jitterReduction := decide (ext.toNat % 2 = 1),
                          largePackets := decide (ext.toNat / 2 % 2 = 1) }))) ∧
    exec (.negMidi2 ext) s = .next (afterFrameRow s { n0 := 2#8, n1 := 0#8, n2 := ext, n3 := 0#8, n4 := 0#8 }
      { ok := false, code := 8#4, info := 0#3, res := 0#8 }
      (.ok (.protocolType .midi2)) (.ok (.protocolVersion .midi2v1))
      (if s.params.strictExtReserved = true ∧ ext.toNat / 4 ≠ 0 then .err .reservedByteViolation 2#3 else .ok .unit)
      (.err .extensionsNotApplicable 0#3))

/-! ### Frames -/

/-- R28, R48, R162: an operation of format OP, reserved codes included, changes the operation select, the response port and
the end of the host's record, and nothing else: no parameter, no operand port, nothing of what is pending. The record and
the list of pending transactions are the model's (log entries 1 and 8). -/
def Obligations.OperationsChangeOnlyTheResponse : Prop :=
  ∀ (i : Instr) (sel : Nibble) (s t : State), encode i = .op sel → exec i s = .next t →
    t.opSel = sel ∧ t.params = s.params ∧ t.operands = s.operands ∧ t.pending = s.pending ∧
    ∃ r, t.resp = r.port ∧ t.log = s.log ++ [{ sel := sel, response := r }]

/-- Presenting a header word changes `W[0]`, to that word, and no other port word or byte, no parameter and nothing pending; the
record grows by answers of unit U0. The three answers, of operations 2, 3 and 4, are the model's choice (log entry 5), and so is
that `W[1..3]` stay as they are (log entry 7; R21 allows any value). -/
def Obligations.HeaderRowsChangeOnlyTheHeaderWord : Prop :=
  ∀ (i : Instr) (w0 : Word) (s t : State), encode i = .header w0 → exec i s = .next t →
    t.operands.w.w0 = w0 ∧ t.operands.w.w1 = s.operands.w.w1 ∧ t.operands.w.w2 = s.operands.w.w2 ∧
    t.operands.w.w3 = s.operands.w.w3 ∧ t.operands.v = s.operands.v ∧ t.operands.sb = s.operands.sb ∧
    t.operands.db = s.operands.db ∧ t.operands.n = s.operands.n ∧ t.params = s.params ∧ t.pending = s.pending ∧
    ∃ a b c, t.log = s.log ++ [⟨2#4, a⟩, ⟨3#4, b⟩, ⟨4#4, c⟩] ∧ t.resp = c.port ∧ t.opSel = 4#4

/-- Presenting a MIDI 1.0 byte changes the two byte ports, to that byte, and no other port, no parameter and nothing
pending; the record grows by answers of unit U1. The same byte on both ports is the model's choice (log entry 6), and so are
the four answers, of operations 5 to 8 (log entry 5). -/
def Obligations.ByteRowsChangeOnlyTheBytePorts : Prop :=
  ∀ (i : Instr) (b : Byte) (s t : State), encode i = .byte b → exec i s = .next t →
    t.operands.sb = b ∧ t.operands.db = b ∧ t.operands.w = s.operands.w ∧ t.operands.v = s.operands.v ∧
    t.operands.n = s.operands.n ∧ t.params = s.params ∧ t.pending = s.pending ∧
    ∃ a c d e, t.log = s.log ++ [⟨5#4, a⟩, ⟨6#4, c⟩, ⟨7#4, d⟩, ⟨8#4, e⟩] ∧ t.resp = e.port ∧ t.opSel = 8#4

/-- Presenting a negotiation payload changes the negotiation port, to that payload, and no other port, no parameter and
nothing pending; the record grows by answers of unit U2. The four answers in one step, of operations 9 to 12, are the model's
choice (log entry 5). -/
def Obligations.FrameRowsChangeOnlyTheNegotiationPort : Prop :=
  ∀ (i : Instr) (f : Frame) (s t : State), encode i = .frame f → exec i s = .next t →
    t.operands.n = f ∧ t.operands.w = s.operands.w ∧ t.operands.v = s.operands.v ∧ t.operands.sb = s.operands.sb ∧
    t.operands.db = s.operands.db ∧ t.params = s.params ∧ t.pending = s.pending ∧
    ∃ a b c d, t.log = s.log ++ [⟨9#4, a⟩, ⟨10#4, b⟩, ⟨11#4, c⟩, ⟨12#4, d⟩] ∧ t.resp = d.port ∧ t.opSel = 12#4

/-! ### The response port -/

/-- R162, R30, R151: a failed operation drives `ok` = 0, the code of its error, `info`, and `res` = 0; the numbers are the
spec's decision D4. -/
def Obligations.ErrorsDriveThePort : Prop :=
  ∀ (e : ErrorName) (c : Nat) (i : BitVec 3), (e, c) ∈ errorTable →
    Result.port (.err e i) = { ok := false, code := BitVec.ofNat 4 c, info := i, res := 0#8 }

/-- R75, R30: a successful operation drives `ok` = 1, `code` = 0, `info` = 0 and its value packed as the table of R75 says,
row by row. The packing is the spec's decision D5. -/
def Obligations.ValuesDriveThePort : Prop :=
  (∀ v c, (v, c) ∈ packingTable → Result.port (.ok v) = okPort c) ∧
  (∀ g, g ≤ 16 → Result.port (.ok (.group g)) = okPort g) ∧
  (∀ n, 1 ≤ n → n ≤ 4 → Result.port (.ok (.words n)) = okPort n) ∧
  (∀ n, n ≤ 2 → Result.port (.ok (.dataBytes (.fixed n))) = okPort n) ∧
  ∀ b : Byte, Result.port (.ok (.statusByte b)) = okPort b.toNat ∧ Result.port (.ok (.dataByte b)) = okPort b.toNat

/-- What the response port shows after each of the thirteen operations, in numbers of the operand bits alone: the conditions
of R92 to R134, the numbers of R151 (the spec's D4), the packing of R75 (D5). The order of error checks and the parameters
are the spec's decisions D6 to D14; the System Common counts are log entry 15. -/
def Obligations.PortAfterEachOperation : Prop :=
  ∀ s : State,
    portAfterExec .mtChk s = some (mtChkPort s.operands.v.toNat) ∧
    portAfterExec .grpChk s = some (grpChkPort s.params.groupMax s.operands.v.toNat) ∧
    portAfterExec .umpMt s = some (okPort (s.operands.w.w0.toNat / 2 ^ 28)) ∧
    portAfterExec .umpGrp s = some (okPort (s.operands.w.w0.toNat / 2 ^ 24 % 16)) ∧
    portAfterExec .umpLen s = some (umpLenPort (s.operands.w.w0.toNat / 2 ^ 28)) ∧
    portAfterExec .m1Sval s = some (m1SvalPort s.operands.sb.toNat) ∧
    portAfterExec .m1Class s = some (m1ClassPort s.operands.sb.toNat) ∧
    portAfterExec .m1Ndb s = some (m1NdbPort s.params.sysCommonResolve s.operands.sb.toNat) ∧
    portAfterExec .m1Dval s = some (m1DvalPort s.operands.db.toNat) ∧
    portAfterExec .ciPtype s = some (ciPtypePort s.operands.n.n0.toNat) ∧
    portAfterExec .ciPver s = some (ciPverPort s.operands.n.n0.toNat s.operands.n.n1.toNat) ∧
    portAfterExec .ciVal s = some
      (ciValPort s.params.strictExtReserved s.operands.n.n2.toNat s.operands.n.n3.toNat s.operands.n.n4.toNat) ∧
    portAfterExec .ciExt s = some (ciExtPort s.operands.n.n0.toNat s.operands.n.n2.toNat)

/-- R75: for one operation the packing loses nothing: two legal answers that show the same port are the same typed response,
in whatever build each was given. The packing is the spec's decision D5. -/
def Obligations.PackingLosesNothing : Prop :=
  ∀ (p q : Params) (a b : Answer), a.legal p = true → b.legal q = true → a.sel = b.sel →
    a.response.port = b.response.port → a.response = b.response

/-- R90, R91: the two extraction primitives as numbers, for every width of value. R91 is the spec's derivation from R90. -/
def Obligations.FieldExtraction : Prop :=
  (∀ (n : Nat) (v : BitVec n) (hi lo : Nat), lo ≤ hi → hi < n →
    (bits v hi lo).toNat = v.toNat / 2 ^ lo % 2 ^ (hi - lo + 1)) ∧
  ∀ (n : Nat) (v : BitVec n) (k : Nat), n % 4 = 0 → k < n / 4 →
    (nib v k).toNat = (bits v (4 * k + 3) (4 * k)).toNat

/-! ### The host's procedures -/

/-- R106: the walk takes the whole stream, with no gap and no overlap. Each packet starts where the packets before it end, has
the length `UMP.LEN` gives its first word, and the walk ends at or beyond the end of the stream; a packet is marked
truncated exactly when it asks for more words than the stream holds (R107). What the walk returns of each packet is the
model's choice (log entry 14). -/
def Obligations.StreamWalkCutsTheWholeStream : Prop :=
  ∀ (p : Params) (filler : Nat → Nat → Word) (S : List Word),
    S.length ≤ (walkStream p filler S).2 ∧
    (walkStream p filler S).2 = ((walkStream p filler S).1.map WalkedPacket.words).sum ∧
    (∀ (before after : List WalkedPacket) (q : WalkedPacket), (walkStream p filler S).1 = before ++ q :: after →
      q.start = (before.map WalkedPacket.words).sum) ∧
    ∀ q ∈ (walkStream p filler S).1, q.start < S.length ∧ 1 ≤ q.words ∧ q.words ≤ 4 ∧
      umpLen (streamPacket filler S q.start) = .ok q.words ∧
      q.messageType = umpMt (streamPacket filler S q.start) ∧ q.group = umpGrp p (streamPacket filler S q.start) ∧
      (q.truncated = true ↔ S.length < q.start + q.words)

/-- R21, R106: what the host drives on the trailing words it does not have never matters, be it another value for each word of
each packet. -/
def Obligations.StreamWalkIgnoresTheFiller : Prop :=
  ∀ (p : Params) (f g : Nat → Nat → Word) (S : List Word), walkStream p f S = walkStream p g S

/-- R107: only the last packet of a walk can be truncated (the mark is log entry 14). -/
def Obligations.OnlyTheLastPacketIsTruncated : Prop :=
  ∀ (p : Params) (filler : Nat → Nat → Word) (S : List Word) (before after : List WalkedPacket) (q : WalkedPacket),
    (walkStream p filler S).1 = before ++ q :: after → after ≠ [] → q.truncated = false

/-- R116: after `Ok(Fixed(n))` the host takes the status byte and the next `n` bytes, if they are data bytes, and leaves the
rest of the sequence. -/
def Obligations.FixedMessagesTakeTheirCount : Prop :=
  ∀ (p : Params) (sb : Byte) (n : Nat) (body rest : List Byte), m1Ndb p sb = .ok (.fixed n) → body.length = n →
    (∀ b ∈ body, b.toNat < 0x80) → assembleMessage p (sb :: (body ++ rest)) = .message (sb :: body) rest

/-- R116: a System Exclusive message ends at its first 0xF7, whatever the length of its body. -/
def Obligations.ExclusiveMessagesEndAtTheirTerminator : Prop :=
  ∀ (p : Params) (body rest : List Byte), (∀ b ∈ body, b.toNat < 0x80) →
    assembleMessage p (0xF0#8 :: (body ++ 0xF7#8 :: rest)) = .message (0xF0#8 :: (body ++ [0xF7#8])) rest

/-- R187: without a terminator a System Exclusive message is never complete, however many data bytes come. That the host
then reports it as incomplete with the bytes taken is the model's choice (log entry 21). -/
def Obligations.ExclusiveMessagesWithoutTerminatorStayOpen : Prop :=
  ∀ (p : Params) (body : List Byte), (∀ b ∈ body, b.toNat < 0x80) →
    assembleMessage p (0xF0#8 :: body) = .incomplete (0xF0#8 :: body)
end

