-- ==== Sys2Proof/Laws/Fields.lean ====
section
/-! SUPPORT. What bit-field access gives on the words and bytes the encoder builds, and that the sixteen names of a
nibble are its sixteen values. -/

namespace Sys2Proof

theorem Hex.ofNibble_toNibble (h : Hex) : Hex.ofNibble h.toNibble = h := by
  cases h <;> rfl

theorem Hex.toNibble_ofNibble : ∀ v : Nibble, (Hex.ofNibble v).toNibble = v := by decide

theorem Hex.ofNibble_eq_iff (v : Nibble) (h : Hex) : Hex.ofNibble v = h ↔ v = h.toNibble :=
  ⟨fun e => by rw [← e, Hex.toNibble_ofNibble], fun e => by rw [e, Hex.ofNibble_toNibble]⟩

theorem MessageType.ofCode_code (t : MessageType) : MessageType.ofCode t.code = t := by
  cases t <;> rfl

theorem MessageType.code_ofCode : ∀ c : Nibble, (MessageType.ofCode c).code = c := by decide

/-- R90 as a number: `bits(v, hi, lo)` is `floor(v / 2^lo) mod 2^(hi-lo+1)`. -/
theorem bits_toNat {n : Nat} (v : BitVec n) (hi lo : Nat) :
    (bits v hi lo).toNat = v.toNat / 2 ^ lo % 2 ^ (hi - lo + 1) := by
  simp [bits, Nat.shiftRight_eq_div_pow]

/-- R91 as a number. -/
theorem nib_toNat {n : Nat} (v : BitVec n) (k : Nat) : (nib v k).toNat = v.toNat / 2 ^ (4 * k) % 16 := by
  simp [nib, Nat.shiftRight_eq_div_pow]

theorem headerWord_toNat (t : MessageType) (group : Nibble) (rest : BitVec 24) :
    (headerWord t group rest).toNat = t.code.toNat * 2 ^ 28 + group.toNat * 2 ^ 24 + rest.toNat := by
  have hg := group.isLt
  have hr := rest.isLt
  simp only [headerWord, BitVec.toNat_append]
  rw [← Nat.shiftLeft_add_eq_or_of_lt (by omega), ← Nat.shiftLeft_add_eq_or_of_lt (by omega)]
  simp only [Nat.shiftLeft_eq]
  omega

theorem nib_headerWord_7 (t : MessageType) (group : Nibble) (rest : BitVec 24) :
    nib (headerWord t group rest) 7 = t.code := by
  have hg := group.isLt
  have hr := rest.isLt
  have ht := t.code.isLt
  apply BitVec.eq_of_toNat_eq
  rw [nib_toNat, headerWord_toNat]
  omega

theorem nib_headerWord_6 (t : MessageType) (group : Nibble) (rest : BitVec 24) :
    nib (headerWord t group rest) 6 = group := by
  have hg := group.isLt
  have hr := rest.isLt
  apply BitVec.eq_of_toNat_eq
  rw [nib_toNat, headerWord_toNat]
  omega

theorem bits_headerWord_rest (t : MessageType) (group : Nibble) (rest : BitVec 24) :
    bits (headerWord t group rest) 23 0 = rest := by
  have hg := group.isLt
  have hr := rest.isLt
  apply BitVec.eq_of_toNat_eq
  rw [bits_toNat, headerWord_toNat]
  omega

/-- A header word is put together again from its three fields. -/
theorem headerWord_fields (w : Word) :
    headerWord (MessageType.ofCode (nib w 7)) (nib w 6) (bits w 23 0) = w := by
  have hw := w.isLt
  have h6 := nib_toNat w 6
  have h7 := nib_toNat w 7
  have hr := bits_toNat w 23 0
  apply BitVec.eq_of_toNat_eq
  rw [headerWord_toNat, MessageType.code_ofCode]
  omega

theorem nib_statusByteOf_1 : ∀ high low : Nibble, nib (statusByteOf high low) 1 = high := by decide

theorem nib_statusByteOf_0 : ∀ high low : Nibble, nib (statusByteOf high low) 0 = low := by decide

/-- A byte is put together again from its two nibbles. -/
theorem statusByteOf_nibbles : ∀ b : Byte, statusByteOf (nib b 1) (nib b 0) = b := by decide

theorem bits_dataByteOf : ∀ payload : BitVec 7, bits (dataByteOf payload) 6 0 = payload := by decide

theorem dataByteOf_msb : ∀ payload : BitVec 7, (dataByteOf payload).getLsbD 7 = false := by decide

/-- Bit 7 of a byte decides between a status byte and a data byte (R62). -/
theorem getLsbD_7_iff (b : Byte) : b.getLsbD 7 = true ↔ 0x80 ≤ b.toNat := by
  revert b
  decide

end Sys2Proof
end

