-- ==== Sys2Proof/Laws/State.lean ====
section
/-! SUPPORT. One lemma per field per update of State and of its ports, each true by rfl, so that no later proof unfolds
a record update. -/

namespace Sys2Proof.Machine

variable (s : State) (sel : Nibble) (r : Response) (x : Operands) (w0 : Word) (b : Byte) (f : Frame)

@[simp] theorem State.answer_params : (s.answer sel r).params = s.params := rfl
@[simp] theorem State.answer_opSel : (s.answer sel r).opSel = sel := rfl
@[simp] theorem State.answer_operands : (s.answer sel r).operands = s.operands := rfl
@[simp] theorem State.answer_resp : (s.answer sel r).resp = r.port := rfl
@[simp] theorem State.answer_pending : (s.answer sel r).pending = s.pending := rfl
@[simp] theorem State.answer_log : (s.answer sel r).log = s.log ++ [{ sel := sel, response := r }] := rfl

@[simp] theorem State.driveHeader_params : (s.driveHeader w0).params = s.params := rfl
@[simp] theorem State.driveHeader_opSel : (s.driveHeader w0).opSel = s.opSel := rfl
@[simp] theorem State.driveHeader_operands : (s.driveHeader w0).operands = s.operands.withHeader w0 := rfl
@[simp] theorem State.driveHeader_resp : (s.driveHeader w0).resp = s.resp := rfl
@[simp] theorem State.driveHeader_pending : (s.driveHeader w0).pending = s.pending := rfl
@[simp] theorem State.driveHeader_log : (s.driveHeader w0).log = s.log := rfl

@[simp] theorem State.driveByte_params : (s.driveByte b).params = s.params := rfl
@[simp] theorem State.driveByte_opSel : (s.driveByte b).opSel = s.opSel := rfl
@[simp] theorem State.driveByte_operands : (s.driveByte b).operands = s.operands.withByte b := rfl
@[simp] theorem State.driveByte_resp : (s.driveByte b).resp = s.resp := rfl
@[simp] theorem State.driveByte_pending : (s.driveByte b).pending = s.pending := rfl
@[simp] theorem State.driveByte_log : (s.driveByte b).log = s.log := rfl

@[simp] theorem State.driveFrame_params : (s.driveFrame f).params = s.params := rfl
@[simp] theorem State.driveFrame_opSel : (s.driveFrame f).opSel = s.opSel := rfl
@[simp] theorem State.driveFrame_operands : (s.driveFrame f).operands = s.operands.withFrame f := rfl
@[simp] theorem State.driveFrame_resp : (s.driveFrame f).resp = s.resp := rfl
@[simp] theorem State.driveFrame_pending : (s.driveFrame f).pending = s.pending := rfl
@[simp] theorem State.driveFrame_log : (s.driveFrame f).log = s.log := rfl

@[simp] theorem Operands.withHeader_w : (x.withHeader w0).w = { x.w with w0 := w0 } := rfl
@[simp] theorem Operands.withHeader_v : (x.withHeader w0).v = x.v := rfl
@[simp] theorem Operands.withHeader_sb : (x.withHeader w0).sb = x.sb := rfl
@[simp] theorem Operands.withHeader_db : (x.withHeader w0).db = x.db := rfl
@[simp] theorem Operands.withHeader_n : (x.withHeader w0).n = x.n := rfl
@[simp] theorem Operands.withByte_w : (x.withByte b).w = x.w := rfl
@[simp] theorem Operands.withByte_v : (x.withByte b).v = x.v := rfl
@[simp] theorem Operands.withByte_sb : (x.withByte b).sb = b := rfl
@[simp] theorem Operands.withByte_db : (x.withByte b).db = b := rfl
@[simp] theorem Operands.withByte_n : (x.withByte b).n = x.n := rfl
@[simp] theorem Operands.withFrame_w : (x.withFrame f).w = x.w := rfl
@[simp] theorem Operands.withFrame_v : (x.withFrame f).v = x.v := rfl
@[simp] theorem Operands.withFrame_sb : (x.withFrame f).sb = x.sb := rfl
@[simp] theorem Operands.withFrame_db : (x.withFrame f).db = x.db := rfl
@[simp] theorem Operands.withFrame_n : (x.withFrame f).n = f := rfl

@[simp] theorem Packet.word_0 (w : Packet) : w.word 0 = w.w0 := rfl
@[simp] theorem Packet.word_1 (w : Packet) : w.word 1 = w.w1 := rfl
@[simp] theorem Packet.word_2 (w : Packet) : w.word 2 = w.w2 := rfl
@[simp] theorem Packet.word_3 (w : Packet) : w.word 3 = w.w3 := rfl
@[simp] theorem frameByte_0 : frameByte f 0 = f.n0 := rfl
@[simp] theorem frameByte_1 : frameByte f 1 = f.n1 := rfl
@[simp] theorem frameByte_2 : frameByte f 2 = f.n2 := rfl
@[simp] theorem frameByte_3 : frameByte f 3 = f.n3 := rfl
@[simp] theorem frameByte_4 : frameByte f 4 = f.n4 := rfl

@[simp] theorem answerMtChk_params : (answerMtChk s).params = s.params := rfl
@[simp] theorem answerMtChk_operands : (answerMtChk s).operands = s.operands := rfl
@[simp] theorem answerMtChk_pending : (answerMtChk s).pending = s.pending := rfl
@[simp] theorem answerGrpChk_params : (answerGrpChk s).params = s.params := rfl
@[simp] theorem answerGrpChk_operands : (answerGrpChk s).operands = s.operands := rfl
@[simp] theorem answerGrpChk_pending : (answerGrpChk s).pending = s.pending := rfl
@[simp] theorem answerUmpMt_params : (answerUmpMt s).params = s.params := rfl
@[simp] theorem answerUmpMt_operands : (answerUmpMt s).operands = s.operands := rfl
@[simp] theorem answerUmpMt_pending : (answerUmpMt s).pending = s.pending := rfl
@[simp] theorem answerUmpGrp_params : (answerUmpGrp s).params = s.params := rfl
@[simp] theorem answerUmpGrp_operands : (answerUmpGrp s).operands = s.operands := rfl
@[simp] theorem answerUmpGrp_pending : (answerUmpGrp s).pending = s.pending := rfl
@[simp] theorem answerUmpLen_params : (answerUmpLen s).params = s.params := rfl
@[simp] theorem answerUmpLen_operands : (answerUmpLen s).operands = s.operands := rfl
@[simp] theorem answerUmpLen_pending : (answerUmpLen s).pending = s.pending := rfl
@[simp] theorem answerM1Sval_params : (answerM1Sval s).params = s.params := rfl
@[simp] theorem answerM1Sval_operands : (answerM1Sval s).operands = s.operands := rfl
@[simp] theorem answerM1Sval_pending : (answerM1Sval s).pending = s.pending := rfl
@[simp] theorem answerM1Class_params : (answerM1Class s).params = s.params := rfl
@[simp] theorem answerM1Class_operands : (answerM1Class s).operands = s.operands := rfl
@[simp] theorem answerM1Class_pending : (answerM1Class s).pending = s.pending := rfl
@[simp] theorem answerM1Ndb_params : (answerM1Ndb s).params = s.params := rfl
@[simp] theorem answerM1Ndb_operands : (answerM1Ndb s).operands = s.operands := rfl
@[simp] theorem answerM1Ndb_pending : (answerM1Ndb s).pending = s.pending := rfl
@[simp] theorem answerM1Dval_params : (answerM1Dval s).params = s.params := rfl
@[simp] theorem answerM1Dval_operands : (answerM1Dval s).operands = s.operands := rfl
@[simp] theorem answerM1Dval_pending : (answerM1Dval s).pending = s.pending := rfl
@[simp] theorem answerCiPtype_params : (answerCiPtype s).params = s.params := rfl
@[simp] theorem answerCiPtype_operands : (answerCiPtype s).operands = s.operands := rfl
@[simp] theorem answerCiPtype_pending : (answerCiPtype s).pending = s.pending := rfl
@[simp] theorem answerCiPver_params : (answerCiPver s).params = s.params := rfl
@[simp] theorem answerCiPver_operands : (answerCiPver s).operands = s.operands := rfl
@[simp] theorem answerCiPver_pending : (answerCiPver s).pending = s.pending := rfl
@[simp] theorem answerCiVal_params : (answerCiVal s).params = s.params := rfl
@[simp] theorem answerCiVal_operands : (answerCiVal s).operands = s.operands := rfl
@[simp] theorem answerCiVal_pending : (answerCiVal s).pending = s.pending := rfl
@[simp] theorem answerCiExt_params : (answerCiExt s).params = s.params := rfl
@[simp] theorem answerCiExt_operands : (answerCiExt s).operands = s.operands := rfl
@[simp] theorem answerCiExt_pending : (answerCiExt s).pending = s.pending := rfl

/-! A result passed through `map` or `bind`. -/

variable {α β : Type} (v : α) (e : ErrorName) (i : BitVec 3)

@[simp] theorem Result.map_ok (g : α → β) : (Result.ok v).map g = .ok (g v) := rfl
@[simp] theorem Result.map_err (g : α → β) : (Result.err e i : Result α).map g = .err e i := rfl
@[simp] theorem Result.bind_ok (g : α → Result β) : (Result.ok v).bind g = g v := rfl
@[simp] theorem Result.bind_err (g : α → Result β) : (Result.err e i : Result α).bind g = .err e i := rfl
@[simp] theorem Result.isOk_ok : (Result.ok v).isOk = true := rfl
@[simp] theorem Result.isOk_err : (Result.err e i : Result α).isOk = false := rfl

end Sys2Proof.Machine
end

