-- ==== Sys2Proof/Laws/Ops.lean ====
section
/-! SUPPORT. One lemma for each shared operation, saying everything it can do. -/

namespace Sys2Proof.Machine

/-! ### Presenting a value -/

/-- The three answers of unit U0 to a packet port. -/
def headerAnswers (p : Params) (w : Packet) : List Answer :=
  [{ sel := 0x2#4, response := (umpMt w).map .messageType },
   { sel := 0x3#4, response := (umpGrp p w).map .group },
   { sel := 0x4#4, response := (umpLen w).map .words }]

/-- The four answers of unit U1 to one byte on both byte ports. -/
def byteAnswers (p : Params) (b : Byte) : List Answer :=
  [{ sel := 0x5#4, response := (m1Sval b).map .statusByte },
   { sel := 0x6#4, response := (m1Class b).map .message },
   { sel := 0x7#4, response := (m1Ndb p b).map .dataBytes },
   { sel := 0x8#4, response := (m1Dval b).map .dataByte }]

/-- The four answers of unit U2 to a payload. -/
def frameAnswers (p : Params) (f : Frame) : List Answer :=
  [{ sel := 0x9#4, response := (ciPtype f).map .protocolType },
   { sel := 0xA#4, response := (ciPver f).map .protocolVersion },
   { sel := 0xB#4, response := (ciVal p f).map fun _ => .unit },
   { sel := 0xC#4, response := (ciExt f).map .extensions }]

/-- Presenting a header word drives `W[0]` and takes three answers, each computed from the port as driven. -/
theorem presentHeader_eq (w0 : Word) (s : State) :
    presentHeader w0 s =
      { s with
        opSel := 0x4#4, operands := s.operands.withHeader w0
        resp := portAfter (headerAnswers s.params (s.operands.withHeader w0).w)
        log := s.log ++ headerAnswers s.params (s.operands.withHeader w0).w } := by
  simp [presentHeader, answerUmpLen, answerUmpGrp, answerUmpMt, State.answer, State.driveHeader, headerAnswers,
    portAfter]

/-- Presenting a byte drives both byte ports and takes four answers. -/
theorem presentByte_eq (b : Byte) (s : State) :
    presentByte b s =
      { s with
        opSel := 0x8#4, operands := s.operands.withByte b, resp := portAfter (byteAnswers s.params b)
        log := s.log ++ byteAnswers s.params b } := by
  simp [presentByte, answerM1Dval, answerM1Ndb, answerM1Class, answerM1Sval, State.answer, State.driveByte,
    byteAnswers, portAfter]

/-- Presenting a payload drives the negotiation port and takes four answers. -/
theorem presentFrame_eq (f : Frame) (s : State) :
    presentFrame f s =
      { s with
        opSel := 0xC#4, operands := s.operands.withFrame f, resp := portAfter (frameAnswers s.params f)
        log := s.log ++ frameAnswers s.params f } := by
  simp [presentFrame, answerCiExt, answerCiVal, answerCiPver, answerCiPtype, State.answer, State.driveFrame,
    frameAnswers, portAfter]

/-! ### The units -/

theorem mtChk_of_le (v : RawValue) (h : v.toNat ≤ 15) : mtChk v = .ok (MessageType.ofCode (bits v 3 0)) := by
  simp [mtChk, Nat.not_lt.mpr h]

theorem grpChk_of_le (p : Params) (v : RawValue) (h : v.toNat ≤ groupBound p) : grpChk p v = .ok v.toNat := by
  simp [grpChk, Nat.not_lt.mpr h]

theorem fifteen_le_groupBound (p : Params) : 15 ≤ groupBound p := by
  cases p with
  | mk g _ _ => cases g <;> simp [groupBound]

theorem bits_zext8_nibble : ∀ k : Nibble, bits (zext8 k) 3 0 = k := by decide

/-- `UMP.MT` answers the tag of the top nibble, whatever the word. -/
theorem umpMt_eq (w : Packet) : umpMt w = .ok (MessageType.ofCode (nib w.w0 7)) := by
  have h : (zext8 (nib w.w0 7)).toNat ≤ 15 := by
    have := (nib w.w0 7).isLt
    simp [zext8]
    omega
  simp [umpMt, mtChk_of_le _ h, bits_zext8_nibble]

/-- `UMP.GRP` answers the next nibble, whatever the word and the parameters. -/
theorem umpGrp_eq (p : Params) (w : Packet) : umpGrp p w = .ok (nib w.w0 6).toNat := by
  have hn : (zext8 (nib w.w0 6)).toNat = (nib w.w0 6).toNat := by
    have := (nib w.w0 6).isLt
    simp [zext8]
    omega
  have h : (zext8 (nib w.w0 6)).toNat ≤ groupBound p := by
    have := fifteen_le_groupBound p
    have := (nib w.w0 6).isLt
    omega
  simp [umpGrp, grpChk_of_le p _ h, hn]

/-- `UMP.LEN` answers the length of the tag of the top nibble, whatever the word. -/
theorem umpLen_eq (w : Packet) : umpLen w = .ok (packetWords (MessageType.ofCode (nib w.w0 7))) := by
  simp [umpLen, umpMt_eq]

theorem packetWords_range (t : MessageType) : 1 ≤ packetWords t ∧ packetWords t ≤ 4 := by
  cases t <;> decide

/-! ### Taking the next transaction, and the step -/

theorem fetch_nil (s : State) (h : s.pending = []) : s.fetch = none := by
  simp [State.fetch, h]

theorem fetch_request (s : State) (sel : Nibble) (x : Operands) (rest : List Transaction)
    (h : s.pending = .request sel x :: rest) :
    s.fetch = some (.op sel, { s with opSel := sel, operands := x, pending := rest }) := by
  simp [State.fetch, h]

theorem fetch_header (s : State) (w0 : Word) (rest : List Transaction) (h : s.pending = .header w0 :: rest) :
    s.fetch = some (.header w0, { s with pending := rest }) := by
  simp [State.fetch, h]

theorem fetch_byte (s : State) (b : Byte) (rest : List Transaction) (h : s.pending = .byte b :: rest) :
    s.fetch = some (.byte b, { s with pending := rest }) := by
  simp [State.fetch, h]

theorem fetch_frame (s : State) (f : Frame) (rest : List Transaction) (h : s.pending = .frame f :: rest) :
    s.fetch = some (.frame f, { s with pending := rest }) := by
  simp [State.fetch, h]

/-- What every instruction does: it answers a next state, which differs from the state before in the operation select,
the operand ports, the response port and a nonempty list of answers added to the record. -/
def Answered (s : State) (o : Host.Outcome State Fault Refusal) : Prop :=
  ∃ sel x answers, answers ≠ [] ∧
    o = .next { s with opSel := sel, operands := x, resp := portAfter answers, log := s.log ++ answers }

theorem answered_answer (s : State) (sel : Nibble) (r : Response) : Answered s (.next (s.answer sel r)) :=
  ⟨sel, s.operands, [⟨sel, r⟩], by simp, rfl⟩

theorem answered_header (s : State) (w0 : Word) : Answered s (.next (presentHeader w0 s)) :=
  ⟨_, _, _, List.cons_ne_nil _ _, congrArg Host.Outcome.next (presentHeader_eq w0 s)⟩

theorem answered_byte (s : State) (b : Byte) : Answered s (.next (presentByte b s)) :=
  ⟨_, _, _, List.cons_ne_nil _ _, congrArg Host.Outcome.next (presentByte_eq b s)⟩

theorem answered_frame (s : State) (f : Frame) : Answered s (.next (presentFrame f s)) :=
  ⟨_, _, _, List.cons_ne_nil _ _, congrArg Host.Outcome.next (presentFrame_eq f s)⟩

/-- Everything `exec` can do. -/
theorem exec_answers (i : Instr) (s : State) : Answered s (exec i s) := by
  cases i <;>
    first
      | exact answered_answer s _ _
      | exact answered_header s _
      | exact answered_byte s _
      | exact answered_frame s _

end Sys2Proof.Machine
end

