-- ==== Sys2Proof/Laws/PerInstr.lean ====
section
/-! SUPPORT. Per-instruction law RowMatch: the bits of every well-formed instruction belong to the row of
spec/opcode_table.json that the instruction stands for ("A value v belongs to a row when v AND mask = match",
30_encoding.md R77). The rows are copied from the table's match and mask columns, not from the encoder. -/

namespace Sys2Proof.Laws.RowMatch

/-- A row of the table: its format with its match and mask columns. -/
inductive Row where
  | op (pattern mask : BitVec 4)
  | umpw0 (pattern mask : BitVec 32)
  | m1byte (pattern mask : BitVec 8)
  | neg5 (pattern mask : BitVec 40)

/-- R77: whether the bits belong to the row. The 40-bit string of a frame has byte 0 leftmost. -/
def Row.holds : Row → Code → Prop
  | .op p m, .op sel => sel &&& m = p
  | .umpw0 p m, .header w0 => w0 &&& m = p
  | .m1byte p m, .byte b => b &&& m = p
  | .neg5 p m, .frame f => (f.n0 ++ f.n1 ++ f.n2 ++ f.n3 ++ f.n4) &&& m = p
  | .op _ _, .header _ => False
  | .op _ _, .byte _ => False
  | .op _ _, .frame _ => False
  | .umpw0 _ _, .op _ => False
  | .umpw0 _ _, .byte _ => False
  | .umpw0 _ _, .frame _ => False
  | .m1byte _ _, .op _ => False
  | .m1byte _ _, .header _ => False
  | .m1byte _ _, .frame _ => False
  | .neg5 _ _, .op _ => False
  | .neg5 _ _, .header _ => False
  | .neg5 _ _, .byte _ => False

/-- The row of each instruction, the table's match and mask. -/
def row : Instr → Row
  | .mtChk => .op 0x0#4 0xF#4
  | .grpChk => .op 0x1#4 0xF#4
  | .umpMt => .op 0x2#4 0xF#4
  | .umpGrp => .op 0x3#4 0xF#4
  | .umpLen => .op 0x4#4 0xF#4
  | .m1Sval => .op 0x5#4 0xF#4
  | .m1Class => .op 0x6#4 0xF#4
  | .m1Ndb => .op 0x7#4 0xF#4
  | .m1Dval => .op 0x8#4 0xF#4
  | .ciPtype => .op 0x9#4 0xF#4
  | .ciPver => .op 0xA#4 0xF#4
  | .ciVal => .op 0xB#4 0xF#4
  | .ciExt => .op 0xC#4 0xF#4
  | .opRsvdD => .op 0xD#4 0xF#4
  | .opRsvdE => .op 0xE#4 0xF#4
  | .opRsvdF => .op 0xF#4 0xF#4
  | .umpUtility _ _ => .umpw0 0x00000000#32 0xF0000000#32
  | .umpSystemRealTimeAndCommon _ _ => .umpw0 0x10000000#32 0xF0000000#32
  | .umpMidi1ChannelVoice _ _ => .umpw0 0x20000000#32 0xF0000000#32
  | .umpDataInclSystemExclusive _ _ => .umpw0 0x30000000#32 0xF0000000#32
  | .umpMidi2ChannelVoice _ _ => .umpw0 0x40000000#32 0xF0000000#32
  | .umpData _ _ => .umpw0 0x50000000#32 0xF0000000#32
  | .umpReserved6 _ _ => .umpw0 0x60000000#32 0xF0000000#32
  | .umpReserved7 _ _ => .umpw0 0x70000000#32 0xF0000000#32
  | .umpReserved8 _ _ => .umpw0 0x80000000#32 0xF0000000#32
  | .umpReserved9 _ _ => .umpw0 0x90000000#32 0xF0000000#32
  | .umpReservedA _ _ => .umpw0 0xA0000000#32 0xF0000000#32
  | .umpReservedB _ _ => .umpw0 0xB0000000#32 0xF0000000#32
  | .umpReservedC _ _ => .umpw0 0xC0000000#32 0xF0000000#32
  | .umpReservedD _ _ => .umpw0 0xD0000000#32 0xF0000000#32
  | .umpReservedE _ _ => .umpw0 0xE0000000#32 0xF0000000#32
  | .umpReservedF _ _ => .umpw0 0xF0000000#32 0xF0000000#32
  | .m1Data _ => .m1byte 0x00#8 0x80#8
  | .m1NoteOff _ => .m1byte 0x80#8 0xF0#8
  | .m1NoteOn _ => .m1byte 0x90#8 0xF0#8
  | .m1PolyphonicKeyPressureOrAftertouch _ => .m1byte 0xA0#8 0xF0#8
  | .m1ControlChangeOrChannelMode _ => .m1byte 0xB0#8 0xF0#8
  | .m1ProgramChange _ => .m1byte 0xC0#8 0xF0#8
  | .m1ChannelPressureOrAftertouch _ => .m1byte 0xD0#8 0xF0#8
  | .m1PitchBendChange _ => .m1byte 0xE0#8 0xF0#8
  | .m1SystemExclusive => .m1byte 0xF0#8 0xFF#8
  | .m1SystemCommonF1 => .m1byte 0xF1#8 0xFF#8
  | .m1SystemCommonF2 => .m1byte 0xF2#8 0xFF#8
  | .m1SystemCommonF3 => .m1byte 0xF3#8 0xFF#8
  | .m1SystemCommonF4 => .m1byte 0xF4#8 0xFF#8
  | .m1SystemCommonF5 => .m1byte 0xF5#8 0xFF#8
  | .m1SystemCommonF6 => .m1byte 0xF6#8 0xFF#8
  | .m1SystemCommonF7 => .m1byte 0xF7#8 0xFF#8
  | .m1SystemRealTime _ => .m1byte 0xF8#8 0xF8#8
  | .negMidi1 _ => .neg5 0x0100000000#40 0xFFFF00FFFF#40
  | .negMidi2 _ => .neg5 0x0200000000#40 0xFFFF00FFFF#40

/-- The law. -/
def Statement (i : Instr) : Prop := i.wf = true → (row i).holds (encode i)

theorem header_row (t : MessageType) (group : Nibble) (rest : BitVec 24) :
    headerWord t group rest &&& 0xF0000000#32 = t.code ++ 0x0000000#28 := by
  have h : (0xF0000000#32) = 0xF#4 ++ 0x0#4 ++ 0x000000#24 := rfl
  rw [h, headerWord, BitVec.and_append, BitVec.and_append]
  simp only [BitVec.and_zero]
  rw [show t.code &&& 0xF#4 = t.code from BitVec.and_allOnes]
  cases t <;> rfl

theorem frame_row (ptype ext : Byte) :
    (ptype ++ 0x00#8 ++ ext ++ 0x00#8 ++ 0x00#8 : BitVec 40) &&& 0xFFFF00FFFF#40 =
      ptype ++ 0x00#8 ++ 0x00#8 ++ 0x00#8 ++ 0x00#8 := by
  have h : (0xFFFF00FFFF#40) = 0xFF#8 ++ 0xFF#8 ++ 0x00#8 ++ 0xFF#8 ++ 0xFF#8 := rfl
  rw [h, BitVec.and_append, BitVec.and_append, BitVec.and_append, BitVec.and_append]
  simp only [BitVec.and_zero, BitVec.zero_and]
  rw [show ptype &&& 0xFF#8 = ptype from BitVec.and_allOnes]

theorem status_row : ∀ high low : Nibble, statusByteOf high low &&& 0xF0#8 = high ++ 0x0#4 := by decide

theorem data_row : ∀ payload : BitVec 7, dataByteOf payload &&& 0x80#8 = 0x00#8 := by decide

theorem realTime_row : ∀ low : Nibble, realTimeLowOk low = true → statusByteOf 0xF#4 low &&& 0xF8#8 = 0xF8#8 := by
  decide

theorem mtChk : Statement .mtChk := fun _ => rfl
theorem grpChk : Statement .grpChk := fun _ => rfl
theorem umpMt : Statement .umpMt := fun _ => rfl
theorem umpGrp : Statement .umpGrp := fun _ => rfl
theorem umpLen : Statement .umpLen := fun _ => rfl
theorem m1Sval : Statement .m1Sval := fun _ => rfl
theorem m1Class : Statement .m1Class := fun _ => rfl
theorem m1Ndb : Statement .m1Ndb := fun _ => rfl
theorem m1Dval : Statement .m1Dval := fun _ => rfl
theorem ciPtype : Statement .ciPtype := fun _ => rfl
theorem ciPver : Statement .ciPver := fun _ => rfl
theorem ciVal : Statement .ciVal := fun _ => rfl
theorem ciExt : Statement .ciExt := fun _ => rfl
theorem opRsvdD : Statement .opRsvdD := fun _ => rfl
theorem opRsvdE : Statement .opRsvdE := fun _ => rfl
theorem opRsvdF : Statement .opRsvdF := fun _ => rfl
theorem umpUtility (group : Nibble) (rest : BitVec 24) : Statement (.umpUtility group rest) :=
  fun _ => header_row .utility group rest
theorem umpSystemRealTimeAndCommon (group : Nibble) (rest : BitVec 24) : Statement (.umpSystemRealTimeAndCommon group rest) :=
  fun _ => header_row .systemRealTimeAndCommon group rest
theorem umpMidi1ChannelVoice (group : Nibble) (rest : BitVec 24) : Statement (.umpMidi1ChannelVoice group rest) :=
  fun _ => header_row .midi1ChannelVoice group rest
theorem umpDataInclSystemExclusive (group : Nibble) (rest : BitVec 24) : Statement (.umpDataInclSystemExclusive group rest) :=
  fun _ => header_row .dataInclSystemExclusive group rest
theorem umpMidi2ChannelVoice (group : Nibble) (rest : BitVec 24) : Statement (.umpMidi2ChannelVoice group rest) :=
  fun _ => header_row .midi2ChannelVoice group rest
theorem umpData (group : Nibble) (rest : BitVec 24) : Statement (.umpData group rest) :=
  fun _ => header_row .data group rest
theorem umpReserved6 (group : Nibble) (rest : BitVec 24) : Statement (.umpReserved6 group rest) :=
  fun _ => header_row .reserved6 group rest
theorem umpReserved7 (group : Nibble) (rest : BitVec 24) : Statement (.umpReserved7 group rest) :=
  fun _ => header_row .reserved7 group rest
theorem umpReserved8 (group : Nibble) (rest : BitVec 24) : Statement (.umpReserved8 group rest) :=
  fun _ => header_row .reserved8 group rest
theorem umpReserved9 (group : Nibble) (rest : BitVec 24) : Statement (.umpReserved9 group rest) :=
  fun _ => header_row .reserved9 group rest
theorem umpReservedA (group : Nibble) (rest : BitVec 24) : Statement (.umpReservedA group rest) :=
  fun _ => header_row .reservedA group rest
theorem umpReservedB (group : Nibble) (rest : BitVec 24) : Statement (.umpReservedB group rest) :=
  fun _ => header_row .reservedB group rest
theorem umpReservedC (group : Nibble) (rest : BitVec 24) : Statement (.umpReservedC group rest) :=
  fun _ => header_row .reservedC group rest
theorem umpReservedD (group : Nibble) (rest : BitVec 24) : Statement (.umpReservedD group rest) :=
  fun _ => header_row .reservedD group rest
theorem umpReservedE (group : Nibble) (rest : BitVec 24) : Statement (.umpReservedE group rest) :=
  fun _ => header_row .reservedE group rest
theorem umpReservedF (group : Nibble) (rest : BitVec 24) : Statement (.umpReservedF group rest) :=
  fun _ => header_row .reservedF group rest
theorem m1Data (payload : BitVec 7) : Statement (.m1Data payload) := fun _ => data_row payload
theorem m1NoteOff (low : Nibble) : Statement (.m1NoteOff low) := fun _ => status_row 0x8#4 low
theorem m1NoteOn (low : Nibble) : Statement (.m1NoteOn low) := fun _ => status_row 0x9#4 low
theorem m1PolyphonicKeyPressureOrAftertouch (low : Nibble) : Statement (.m1PolyphonicKeyPressureOrAftertouch low) :=
  fun _ => status_row 0xA#4 low
theorem m1ControlChangeOrChannelMode (low : Nibble) : Statement (.m1ControlChangeOrChannelMode low) :=
  fun _ => status_row 0xB#4 low
theorem m1ProgramChange (low : Nibble) : Statement (.m1ProgramChange low) := fun _ => status_row 0xC#4 low
theorem m1ChannelPressureOrAftertouch (low : Nibble) : Statement (.m1ChannelPressureOrAftertouch low) :=
  fun _ => status_row 0xD#4 low
theorem m1PitchBendChange (low : Nibble) : Statement (.m1PitchBendChange low) := fun _ => status_row 0xE#4 low
theorem m1SystemExclusive : Statement .m1SystemExclusive := fun _ => rfl
theorem m1SystemCommonF1 : Statement .m1SystemCommonF1 := fun _ => rfl
theorem m1SystemCommonF2 : Statement .m1SystemCommonF2 := fun _ => rfl
theorem m1SystemCommonF3 : Statement .m1SystemCommonF3 := fun _ => rfl
theorem m1SystemCommonF4 : Statement .m1SystemCommonF4 := fun _ => rfl
theorem m1SystemCommonF5 : Statement .m1SystemCommonF5 := fun _ => rfl
theorem m1SystemCommonF6 : Statement .m1SystemCommonF6 := fun _ => rfl
theorem m1SystemCommonF7 : Statement .m1SystemCommonF7 := fun _ => rfl
theorem m1SystemRealTime (low : Nibble) : Statement (.m1SystemRealTime low) := realTime_row low
theorem negMidi1 (ext : Byte) : Statement (.negMidi1 ext) := fun _ => frame_row 0x01#8 ext
theorem negMidi2 (ext : Byte) : Statement (.negMidi2 ext) := fun _ => frame_row 0x02#8 ext

end Sys2Proof.Laws.RowMatch
end

