-- ==== Sys2Proof/Laws/Step.lean ====
section
/-! SUPPORT. What exec does with an instruction of each format, and everything a step can do. -/

namespace Sys2Proof.Machine

/-- An operation answers with R20's function of the parameters and the ports. -/
theorem exec_of_encode_op (i : Instr) (sel : Nibble) (s : State) (h : encode i = .op sel) :
    exec i s = .next (s.answer sel (respond s.params sel s.operands)) := by
  cases i <;> simp [encode] at h <;> subst h <;> rfl

/-- A row of format UMPW0 presents its word. -/
theorem exec_of_encode_header (i : Instr) (w0 : Word) (s : State) (h : encode i = .header w0) :
    exec i s = .next (presentHeader w0 s) := by
  cases i <;> simp [encode] at h <;> subst h <;> rfl

/-- A row of format M1BYTE presents its byte. -/
theorem exec_of_encode_byte (i : Instr) (b : Byte) (s : State) (h : encode i = .byte b) :
    exec i s = .next (presentByte b s) := by
  cases i <;> simp [encode] at h <;> subst h <;> rfl

/-- A row of format NEG5 presents its payload. -/
theorem exec_of_encode_frame (i : Instr) (f : Frame) (s : State) (h : encode i = .frame f) :
    exec i s = .next (presentFrame f s) := by
  cases i <;> simp [encode] at h <;> subst h <;> rfl

/-- Everything a step can do: wait with nothing pending, or take the next transaction and answer it. -/
theorem step_cases (s : State) :
    (s.pending = [] ∧ step s = .next s) ∨
    ∃ t rest, s.pending = t :: rest ∧ Answered { s with pending := rest } (step s) := by
  cases h : s.pending with
  | nil => exact .inl ⟨rfl, by simp [step, fetch_nil s h]⟩
  | cons t rest =>
    refine .inr ⟨t, rest, rfl, ?_⟩
    cases t with
    | request sel x =>
      obtain ⟨a, b, c, hc, he⟩ := exec_answers (decodeOp sel) { s with opSel := sel, operands := x, pending := rest }
      exact ⟨a, b, c, hc, by simp only [step, fetch_request s sel x rest h, decode, he]⟩
    | header w0 =>
      simpa only [step, fetch_header s w0 rest h, decode] using exec_answers (decodeHeader w0) { s with pending := rest }
    | byte b =>
      simpa only [step, fetch_byte s b rest h, decode] using exec_answers (decodeByte b) { s with pending := rest }
    | frame f =>
      simp only [step, fetch_frame s f rest h]
      cases decode (.frame f) with
      | ok i => exact exec_answers i { s with pending := rest }
      | error e => exact answered_frame { s with pending := rest } f

end Sys2Proof.Machine
end

