-- ==== Sys2Proof/Tests/Slice0.lean ====
section
/-! SUPPORT. Tests. Expected results come from spec/: the encodings of 30_encoding.md and spec/opcode_table.json, and the
vectors of 95_test_vectors.md, named in the comments. After them, for each obligation that has hypotheses, a
concrete witness that meets them, one for each clause. -/

namespace Sys2Proof.Tests

open Sys2Proof Sys2Proof.Machine

/-! ### Helpers -/

/-- The state after, if there is one. -/
def after (o : Host.Outcome State Fault Refusal) : Option State :=
  match o with
  | .next s => some s
  | .fault _ => none
  | .refused _ => none

/-- The state after reset with these contents of the operand ports. -/
def withPorts (x : Operands) : State := { State.reset with operands := x }

/-- The raw-value port holds `v`. -/
def withRaw (v : RawValue) : State := withPorts { Operands.undriven with v := v }

/-- The header word is `w0`, the other words of the packet port hold something else. -/
def withWord (w0 : Word) : State := withPorts { Operands.undriven with w := ⟨w0, 0xFFFFFFFF#32, 0x12345678#32, 0x1#32⟩ }

/-- The status-byte port holds `b`. -/
def withStatus (b : Byte) : State := withPorts { Operands.undriven with sb := b }

/-- The data-byte port holds `b`. -/
def withData (b : Byte) : State := withPorts { Operands.undriven with db := b }

/-- The negotiation port holds `f`. -/
def withPayload (f : Frame) : State := withPorts { Operands.undriven with n := f }

/-- The same state under other parameters. -/
def under (p : Params) (s : State) : State := { s with params := p }

def groups16 : Params := { Params.default with groupMax := .max16 }
def resolve : Params := { Params.default with sysCommonResolve := true }
def strict : Params := { Params.default with strictExtReserved := true }

/-- The response port after one instruction, as the columns `ok code info res` of 95_test_vectors.md. -/
def columns (i : Instr) (s : State) : Option (Nat × Nat × Nat × Nat) :=
  (after (exec i s)).map fun t => (t.resp.ok.toNat, t.resp.code.toNat, t.resp.info.toNat, t.resp.res.toNat)

/-- The responses one instruction adds to the record. -/
def responses (i : Instr) (s : State) : Option (List Response) :=
  (after (exec i s)).map fun t => t.log.map Answer.response

/-- A state with these transactions pending, after reset. -/
def waiting (l : List Transaction) : State := { State.reset with pending := l }

/-! ### Well-formedness -/

/-- The one check: a real-time status byte has bit 3 set (R64). 0xF3 is System Common and not real time. -/
theorem test_wf_refuses_real_time_low_nibble : (Instr.m1SystemRealTime 0x3#4).wf = false := by decide

theorem test_wf_boundaries :
    (Instr.m1SystemRealTime 0x7#4).wf = false ∧ (Instr.m1SystemRealTime 0x8#4).wf = true ∧
    (Instr.m1SystemRealTime 0xF#4).wf = true := by decide

/-! ### Decoding: one word of each row, written from the encoding column of spec/opcode_table.json -/

/-- Format OP. -/
theorem test_decode_op_words :
    decode (.op 0b0000#4) = .ok .mtChk ∧
    decode (.op 0b0001#4) = .ok .grpChk ∧
    decode (.op 0b0010#4) = .ok .umpMt ∧
    decode (.op 0b0011#4) = .ok .umpGrp ∧
    decode (.op 0b0100#4) = .ok .umpLen ∧
    decode (.op 0b0101#4) = .ok .m1Sval ∧
    decode (.op 0b0110#4) = .ok .m1Class ∧
    decode (.op 0b0111#4) = .ok .m1Ndb ∧
    decode (.op 0b1000#4) = .ok .m1Dval ∧
    decode (.op 0b1001#4) = .ok .ciPtype ∧
    decode (.op 0b1010#4) = .ok .ciPver ∧
    decode (.op 0b1011#4) = .ok .ciVal ∧
    decode (.op 0b1100#4) = .ok .ciExt ∧
    decode (.op 0b1101#4) = .ok .opRsvdD ∧
    decode (.op 0b1110#4) = .ok .opRsvdE ∧
    decode (.op 0b1111#4) = .ok .opRsvdF := by decide

/-- Format UMPW0, the words of V-UMP: `mt`, `group` and `rest` are read from their places. -/
theorem test_decode_header_words :
    decode (.header 0b00000000000000000000000000000000#32) = .ok (.umpUtility 0x0#4 0x000000#24) ∧
    decode (.header 0b00010000111110000000000000000000#32) = .ok (.umpSystemRealTimeAndCommon 0x0#4 0xF80000#24) ∧
    decode (.header 0b00101010100100000011110001111111#32) = .ok (.umpMidi1ChannelVoice 0xA#4 0x903C7F#24) ∧
    decode (.header 0b00110000000000000000000000000000#32) = .ok (.umpDataInclSystemExclusive 0x0#4 0x000000#24) ∧
    decode (.header 0b01001111000000000000000000000000#32) = .ok (.umpMidi2ChannelVoice 0xF#4 0x000000#24) ∧
    decode (.header 0b01011111111111111111111111111111#32) = .ok (.umpData 0xF#4 0xFFFFFF#24) ∧
    decode (.header 0b01100000000000000000000000000000#32) = .ok (.umpReserved6 0x0#4 0x000000#24) ∧
    decode (.header 0b01111010101111001101111011110000#32) = .ok (.umpReserved7 0xA#4 0xBCDEF0#24) ∧
    decode (.header 0b10000001001000110100010101100111#32) = .ok (.umpReserved8 0x1#4 0x234567#24) ∧
    decode (.header 0b10010000000000000000000000000000#32) = .ok (.umpReserved9 0x0#4 0x000000#24) ∧
    decode (.header 0b10100101000000000000000000000000#32) = .ok (.umpReservedA 0x5#4 0x000000#24) ∧
    decode (.header 0b10110100000000000000000000000000#32) = .ok (.umpReservedB 0x4#4 0x000000#24) ∧
    decode (.header 0b11000000000000000000000000000001#32) = .ok (.umpReservedC 0x0#4 0x000001#24) ∧
    decode (.header 0b11010111000000000000000000000000#32) = .ok (.umpReservedD 0x7#4 0x000000#24) ∧
    decode (.header 0b11101110000000000000000000000000#32) = .ok (.umpReservedE 0xE#4 0x000000#24) ∧
    decode (.header 0b11110000000000000000000000000000#32) = .ok (.umpReservedF 0x0#4 0x000000#24) := by decide

/-- Format M1BYTE. -/
theorem test_decode_bytes :
    decode (.byte 0b01111111#8) = .ok (.m1Data 0b1111111#7) ∧
    decode (.byte 0b10001111#8) = .ok (.m1NoteOff 0xF#4) ∧
    decode (.byte 0b10010000#8) = .ok (.m1NoteOn 0x0#4) ∧
    decode (.byte 0b10100111#8) = .ok (.m1PolyphonicKeyPressureOrAftertouch 0x7#4) ∧
    decode (.byte 0b10110011#8) = .ok (.m1ControlChangeOrChannelMode 0x3#4) ∧
    decode (.byte 0b11000101#8) = .ok (.m1ProgramChange 0x5#4) ∧
    decode (.byte 0b11010000#8) = .ok (.m1ChannelPressureOrAftertouch 0x0#4) ∧
    decode (.byte 0b11101111#8) = .ok (.m1PitchBendChange 0xF#4) ∧
    decode (.byte 0b11110000#8) = .ok .m1SystemExclusive ∧
    decode (.byte 0b11110001#8) = .ok .m1SystemCommonF1 ∧
    decode (.byte 0b11110010#8) = .ok .m1SystemCommonF2 ∧
    decode (.byte 0b11110011#8) = .ok .m1SystemCommonF3 ∧
    decode (.byte 0b11110100#8) = .ok .m1SystemCommonF4 ∧
    decode (.byte 0b11110101#8) = .ok .m1SystemCommonF5 ∧
    decode (.byte 0b11110110#8) = .ok .m1SystemCommonF6 ∧
    decode (.byte 0b11110111#8) = .ok .m1SystemCommonF7 ∧
    decode (.byte 0b11111000#8) = .ok (.m1SystemRealTime 0x8#4) ∧
    decode (.byte 0b11111111#8) = .ok (.m1SystemRealTime 0xF#4) := by decide

/-- Format NEG5; the four kinds of frame that are no row (R72 (c)) are rejected by name. -/
theorem test_decode_frames :
    decode (.frame ⟨0x01#8, 0x00#8, 0xA3#8, 0x00#8, 0x00#8⟩) = .ok (.negMidi1 0xA3#8) ∧
    decode (.frame ⟨0x02#8, 0x00#8, 0xA3#8, 0x00#8, 0x00#8⟩) = .ok (.negMidi2 0xA3#8) ∧
    decode (.frame ⟨0x03#8, 0x00#8, 0x00#8, 0x00#8, 0x00#8⟩) = .error .unrecognizedProtocolType ∧
    decode (.frame ⟨0x03#8, 0x01#8, 0x00#8, 0x00#8, 0x00#8⟩) = .error .unrecognizedProtocolVersion ∧
    decode (.frame ⟨0x01#8, 0x00#8, 0x00#8, 0x05#8, 0x06#8⟩) = .error (.reservedByteViolation 3) ∧
    decode (.frame ⟨0x01#8, 0x00#8, 0x00#8, 0x00#8, 0x80#8⟩) = .error (.reservedByteViolation 4) := by decide

/-- The numbering of spec/opcode_table.json, byte 0 of a frame leftmost (R77). -/
theorem test_decode_table_words :
    decodeTableWord 8 0xC = some .ciExt ∧
    decodeTableWord 32 0xB4000001 = some (.umpReservedB 0x4#4 0x000001#24) ∧
    decodeTableWord 8 0xF7 = some .m1SystemCommonF7 ∧
    decodeTableWord 40 0x0200FC0000 = some (.negMidi2 0xFC#8) ∧
    decodeTableWord 40 0x0001000000 = none := by decide

/-- The vectors of the bit-field primitives (R90, R91). -/
theorem test_bits_and_nibbles :
    bits 0x2A903C7F#32 27 24 = 0xA#4 ∧
    nib 0x2A903C7F#32 7 = 0x2#4 ∧
    nib 0x2A903C7F#32 6 = 0xA#4 ∧
    nib 0xF8#8 1 = 0xF#4 ∧
    nib 0xF8#8 0 = 0x8#4 ∧
    bits 0xFE#8 7 2 = 0x3F#6 ∧
    bits 0xFE#8 1 0 = 0x2#2 := by decide

/-! ### Operations: the rows of V-CHK, V-UMP, V-M1, V-CI and V-OP of 95_test_vectors.md -/

theorem test_mtChk_accepts :
    columns .mtChk (withRaw 0x03#8) = some (1, 0, 0, 0x03) ∧
    columns .mtChk (withRaw 0x0F#8) = some (1, 0, 0, 0x0F) := by decide

theorem test_mtChk_rejects :
    columns .mtChk (withRaw 0x10#8) = some (0, 1, 0, 0x00) ∧
    columns .mtChk (withRaw 0x23#8) = some (0, 1, 0, 0x00) := by decide

theorem test_grpChk_default_bound :
    columns .grpChk (withRaw 0x0F#8) = some (1, 0, 0, 0x0F) ∧
    columns .grpChk (withRaw 0x10#8) = some (0, 2, 0, 0x00) := by decide

/-- E7: with `GROUP_MAX` = 16 the value 16 is accepted and 17 is rejected. -/
theorem test_grpChk_bound_16 :
    columns .grpChk (under groups16 (withRaw 0x10#8)) = some (1, 0, 0, 0x10) ∧
    columns .grpChk (under groups16 (withRaw 0x11#8)) = some (0, 2, 0, 0x00) := by decide

theorem test_umpMt :
    columns .umpMt (withWord 0x2A903C7F#32) = some (1, 0, 0, 0x02) ∧
    columns .umpMt (withWord 0xF0000000#32) = some (1, 0, 0, 0x0F) := by decide

theorem test_umpGrp :
    columns .umpGrp (withWord 0x2A903C7F#32) = some (1, 0, 0, 0x0A) ∧
    columns .umpGrp (withWord 0x0F000000#32) = some (1, 0, 0, 0x0F) := by decide

theorem test_umpLen :
    columns .umpLen (withWord 0x30000000#32) = some (1, 0, 0, 0x02) ∧
    columns .umpLen (withWord 0x5FFFFFFF#32) = some (1, 0, 0, 0x04) := by decide

theorem test_umpLen_reserved :
    columns .umpLen (withWord 0x81234567#32) = some (1, 0, 0, 0x02) ∧
    columns .umpLen (withWord 0xB4000000#32) = some (1, 0, 0, 0x03) := by decide

theorem test_m1Sval :
    columns .m1Sval (withStatus 0x7F#8) = some (0, 3, 0, 0x00) ∧
    columns .m1Sval (withStatus 0x80#8) = some (1, 0, 0, 0x80) := by decide

theorem test_m1Class_channel :
    columns .m1Class (withStatus 0xB3#8) = some (1, 0, 0, 0x0B) ∧
    columns .m1Class (withStatus 0x3C#8) = some (0, 3, 0, 0x00) := by decide

theorem test_m1Class_system :
    columns .m1Class (withStatus 0xF0#8) = some (1, 0, 0, 0x82) ∧
    columns .m1Class (withStatus 0xF7#8) = some (1, 0, 0, 0x80) ∧
    columns .m1Class (withStatus 0xF8#8) = some (1, 0, 0, 0x81) := by decide

theorem test_m1Ndb_default :
    columns .m1Ndb (withStatus 0xC5#8) = some (1, 0, 0, 0x01) ∧
    columns .m1Ndb (withStatus 0xEF#8) = some (1, 0, 0, 0x02) ∧
    columns .m1Ndb (withStatus 0xF0#8) = some (1, 0, 0, 0x80) ∧
    columns .m1Ndb (withStatus 0xF7#8) = some (0, 9, 0, 0x00) ∧
    columns .m1Ndb (withStatus 0x7F#8) = some (0, 3, 0, 0x00) := by decide

/-- R117, the table from general knowledge. -/
theorem test_m1Ndb_resolved :
    [0xF1#8, 0xF2#8, 0xF3#8, 0xF4#8, 0xF5#8, 0xF6#8, 0xF7#8, 0xF8#8].map
        (fun b => columns .m1Ndb (under resolve (withStatus b))) =
      [some (1, 0, 0, 1), some (1, 0, 0, 2), some (1, 0, 0, 1), some (0, 9, 0, 0), some (0, 9, 0, 0), some (1, 0, 0, 0),
        some (1, 0, 0, 0), some (1, 0, 0, 0)] := by decide

theorem test_m1Dval :
    columns .m1Dval (withData 0x7F#8) = some (1, 0, 0, 0x7F) ∧
    columns .m1Dval (withData 0x80#8) = some (0, 4, 0, 0x00) := by decide

theorem test_ciPtype :
    columns .ciPtype (withPayload ⟨0x02#8, 0x00#8, 0x00#8, 0x00#8, 0x01#8⟩) = some (1, 0, 0, 0x02) ∧
    columns .ciPtype (withPayload ⟨0x81#8, 0x00#8, 0x00#8, 0x00#8, 0x00#8⟩) = some (0, 5, 0, 0x00) := by decide

theorem test_ciPver_accepts :
    columns .ciPver (withPayload ⟨0x01#8, 0x00#8, 0x03#8, 0x00#8, 0x00#8⟩) = some (1, 0, 0, 0x01) ∧
    columns .ciPver (withPayload ⟨0x02#8, 0x00#8, 0x00#8, 0x00#8, 0x01#8⟩) = some (1, 0, 0, 0x02) := by decide

theorem test_ciPver_byte_1_first :
    columns .ciPver (withPayload ⟨0x03#8, 0x01#8, 0x00#8, 0x00#8, 0x00#8⟩) = some (0, 6, 0, 0x00) ∧
    columns .ciPver (withPayload ⟨0x03#8, 0x00#8, 0x00#8, 0x00#8, 0x00#8⟩) = some (0, 5, 0, 0x00) := by decide

theorem test_ciVal_lowest_index :
    columns .ciVal (withPayload ⟨0x01#8, 0x00#8, 0x00#8, 0x05#8, 0x06#8⟩) = some (0, 7, 3, 0x00) ∧
    columns .ciVal (withPayload ⟨0x02#8, 0x00#8, 0x00#8, 0x00#8, 0x01#8⟩) = some (0, 7, 4, 0x00) ∧
    columns .ciVal (withPayload ⟨0x03#8, 0x09#8, 0xFF#8, 0x00#8, 0x00#8⟩) = some (1, 0, 0, 0x00) := by decide

/-- R136. -/
theorem test_ciVal_strict :
    columns .ciVal (under strict (withPayload ⟨0x01#8, 0x00#8, 0x03#8, 0x00#8, 0x00#8⟩)) = some (1, 0, 0, 0x00) ∧
    columns .ciVal (under strict (withPayload ⟨0x01#8, 0x00#8, 0xFC#8, 0x07#8, 0x00#8⟩)) = some (0, 7, 2, 0x00) ∧
    columns .ciVal (under strict (withPayload ⟨0x01#8, 0x00#8, 0x00#8, 0x07#8, 0x00#8⟩)) = some (0, 7, 3, 0x00) := by decide

theorem test_ciExt_flags :
    columns .ciExt (withPayload ⟨0x01#8, 0x00#8, 0x01#8, 0x00#8, 0x00#8⟩) = some (1, 0, 0, 0x01) ∧
    columns .ciExt (withPayload ⟨0x01#8, 0x01#8, 0xFE#8, 0x05#8, 0x06#8⟩) = some (1, 0, 0, 0x02) := by decide

theorem test_ciExt_rejects :
    columns .ciExt (withPayload ⟨0x02#8, 0x00#8, 0x03#8, 0x00#8, 0x00#8⟩) = some (0, 8, 0, 0x00) ∧
    columns .ciExt (withPayload ⟨0x03#8, 0x01#8, 0x00#8, 0x00#8, 0x00#8⟩) = some (0, 5, 0, 0x00) := by decide

theorem test_reserved_codes :
    columns .opRsvdD (withPayload ⟨0xFF#8, 0xFF#8, 0xFF#8, 0xFF#8, 0xFF#8⟩) = some (0, 15, 0, 0x00) ∧
    columns .opRsvdE (withPayload ⟨0xFF#8, 0xFF#8, 0xFF#8, 0xFF#8, 0xFF#8⟩) = some (0, 15, 0, 0x00) ∧
    columns .opRsvdF (withPayload ⟨0xFF#8, 0xFF#8, 0xFF#8, 0xFF#8, 0xFF#8⟩) = some (0, 15, 0, 0x00) := by decide

/-! ### Presented values: the lines of V-UMP, V-M1 and V-CI -/

theorem test_umpUtility : responses (.umpUtility 0x0#4 0x000000#24) State.reset =
    some [.ok (.messageType .utility), .ok (.group 0), .ok (.words 1)] := by decide

theorem test_umpSystemRealTimeAndCommon : responses (.umpSystemRealTimeAndCommon 0x0#4 0xF80000#24) State.reset =
    some [.ok (.messageType .systemRealTimeAndCommon), .ok (.group 0), .ok (.words 1)] := by decide

theorem test_umpMidi1ChannelVoice : responses (.umpMidi1ChannelVoice 0xA#4 0x903C7F#24) State.reset =
    some [.ok (.messageType .midi1ChannelVoice), .ok (.group 10), .ok (.words 1)] := by decide

theorem test_umpDataInclSystemExclusive : responses (.umpDataInclSystemExclusive 0x0#4 0x000000#24) State.reset =
    some [.ok (.messageType .dataInclSystemExclusive), .ok (.group 0), .ok (.words 2)] := by decide

theorem test_umpMidi2ChannelVoice : responses (.umpMidi2ChannelVoice 0xF#4 0x000000#24) State.reset =
    some [.ok (.messageType .midi2ChannelVoice), .ok (.group 15), .ok (.words 2)] := by decide

theorem test_umpData : responses (.umpData 0xF#4 0xFFFFFF#24) State.reset =
    some [.ok (.messageType .data), .ok (.group 15), .ok (.words 4)] := by decide

theorem test_umpReserved6 : responses (.umpReserved6 0x0#4 0x000000#24) State.reset =
    some [.ok (.messageType .reserved6), .ok (.group 0), .ok (.words 1)] := by decide

theorem test_umpReserved7 : responses (.umpReserved7 0xA#4 0xBCDEF0#24) State.reset =
    some [.ok (.messageType .reserved7), .ok (.group 10), .ok (.words 1)] := by decide

theorem test_umpReserved8 : responses (.umpReserved8 0x1#4 0x234567#24) State.reset =
    some [.ok (.messageType .reserved8), .ok (.group 1), .ok (.words 2)] := by decide

theorem test_umpReserved9 : responses (.umpReserved9 0x0#4 0x000000#24) State.reset =
    some [.ok (.messageType .reserved9), .ok (.group 0), .ok (.words 2)] := by decide

theorem test_umpReservedA : responses (.umpReservedA 0x5#4 0x000000#24) State.reset =
    some [.ok (.messageType .reservedA), .ok (.group 5), .ok (.words 2)] := by decide

theorem test_umpReservedB : responses (.umpReservedB 0x4#4 0x000000#24) State.reset =
    some [.ok (.messageType .reservedB), .ok (.group 4), .ok (.words 3)] := by decide

theorem test_umpReservedC : responses (.umpReservedC 0x0#4 0x000001#24) State.reset =
    some [.ok (.messageType .reservedC), .ok (.group 0), .ok (.words 3)] := by decide

theorem test_umpReservedD : responses (.umpReservedD 0x7#4 0x000000#24) State.reset =
    some [.ok (.messageType .reservedD), .ok (.group 7), .ok (.words 4)] := by decide

theorem test_umpReservedE : responses (.umpReservedE 0xE#4 0x000000#24) State.reset =
    some [.ok (.messageType .reservedE), .ok (.group 14), .ok (.words 4)] := by decide

theorem test_umpReservedF : responses (.umpReservedF 0x0#4 0x000000#24) State.reset =
    some [.ok (.messageType .reservedF), .ok (.group 0), .ok (.words 4)] := by decide

theorem test_m1Data : responses (.m1Data 0x3C#7) State.reset =
    some [.err .invalidStatusByte 0#3, .err .invalidStatusByte 0#3, .err .invalidStatusByte 0#3,
      .ok (.dataByte 0x3C#8)] := by decide

theorem test_m1NoteOff : responses (.m1NoteOff 0xF#4) State.reset =
    some [.ok (.statusByte 0x8F#8), .ok (.message (.channel .noteOff)), .ok (.dataBytes (.fixed 2)),
      .err .invalidDataByte 0#3] := by decide

theorem test_m1NoteOn : responses (.m1NoteOn 0x0#4) State.reset =
    some [.ok (.statusByte 0x90#8), .ok (.message (.channel .noteOn)), .ok (.dataBytes (.fixed 2)),
      .err .invalidDataByte 0#3] := by decide

theorem test_m1PolyphonicKeyPressureOrAftertouch : responses (.m1PolyphonicKeyPressureOrAftertouch 0x7#4) State.reset =
    some [.ok (.statusByte 0xA7#8), .ok (.message (.channel .polyphonicKeyPressureOrAftertouch)), .ok (.dataBytes (.fixed 2)),
      .err .invalidDataByte 0#3] := by decide

theorem test_m1ControlChangeOrChannelMode : responses (.m1ControlChangeOrChannelMode 0x3#4) State.reset =
    some [.ok (.statusByte 0xB3#8), .ok (.message (.channel .controlChangeOrChannelMode)), .ok (.dataBytes (.fixed 2)),
      .err .invalidDataByte 0#3] := by decide

theorem test_m1ProgramChange : responses (.m1ProgramChange 0x5#4) State.reset =
    some [.ok (.statusByte 0xC5#8), .ok (.message (.channel .programChange)), .ok (.dataBytes (.fixed 1)),
      .err .invalidDataByte 0#3] := by decide

theorem test_m1ChannelPressureOrAftertouch : responses (.m1ChannelPressureOrAftertouch 0x0#4) State.reset =
    some [.ok (.statusByte 0xD0#8), .ok (.message (.channel .channelPressureOrAftertouch)), .ok (.dataBytes (.fixed 1)),
      .err .invalidDataByte 0#3] := by decide

theorem test_m1PitchBendChange : responses (.m1PitchBendChange 0xF#4) State.reset =
    some [.ok (.statusByte 0xEF#8), .ok (.message (.channel .pitchBendChange)), .ok (.dataBytes (.fixed 2)),
      .err .invalidDataByte 0#3] := by decide

theorem test_m1SystemExclusive : responses .m1SystemExclusive State.reset =
    some [.ok (.statusByte 0xF0#8), .ok (.message (.system .exclusive)), .ok (.dataBytes .untilEox),
      .err .invalidDataByte 0#3] := by decide

theorem test_m1SystemCommonF1 : responses .m1SystemCommonF1 State.reset =
    some [.ok (.statusByte 0xF1#8), .ok (.message (.system .common)), .err .unresolvedDataByteCount 0#3,
      .err .invalidDataByte 0#3] := by decide

theorem test_m1SystemCommonF2 : responses .m1SystemCommonF2 State.reset =
    some [.ok (.statusByte 0xF2#8), .ok (.message (.system .common)), .err .unresolvedDataByteCount 0#3,
      .err .invalidDataByte 0#3] := by decide

theorem test_m1SystemCommonF3 : responses .m1SystemCommonF3 State.reset =
    some [.ok (.statusByte 0xF3#8), .ok (.message (.system .common)), .err .unresolvedDataByteCount 0#3,
      .err .invalidDataByte 0#3] := by decide

theorem test_m1SystemCommonF4 : responses .m1SystemCommonF4 State.reset =
    some [.ok (.statusByte 0xF4#8), .ok (.message (.system .common)), .err .unresolvedDataByteCount 0#3,
      .err .invalidDataByte 0#3] := by decide

theorem test_m1SystemCommonF5 : responses .m1SystemCommonF5 State.reset =
    some [.ok (.statusByte 0xF5#8), .ok (.message (.system .common)), .err .unresolvedDataByteCount 0#3,
      .err .invalidDataByte 0#3] := by decide

theorem test_m1SystemCommonF6 : responses .m1SystemCommonF6 State.reset =
    some [.ok (.statusByte 0xF6#8), .ok (.message (.system .common)), .err .unresolvedDataByteCount 0#3,
      .err .invalidDataByte 0#3] := by decide

theorem test_m1SystemCommonF7 : responses .m1SystemCommonF7 State.reset =
    some [.ok (.statusByte 0xF7#8), .ok (.message (.system .common)), .err .unresolvedDataByteCount 0#3,
      .err .invalidDataByte 0#3] := by decide

theorem test_m1SystemRealTime : responses (.m1SystemRealTime 0x8#4) State.reset =
    some [.ok (.statusByte 0xF8#8), .ok (.message (.system .realTime)), .ok (.dataBytes (.fixed 0)),
      .err .invalidDataByte 0#3] := by decide

/-- E4. -/
theorem test_negMidi1 : responses (.negMidi1 0x03#8) State.reset =
    some [.ok (.protocolType .midi1), .ok (.protocolVersion .midi1), .ok .unit,
      .ok (.extensions { jitterReduction := true, largePackets := true })] := by decide

theorem test_negMidi2 : responses (.negMidi2 0x03#8) State.reset =
    some [.ok (.protocolType .midi2), .ok (.protocolVersion .midi2v1), .ok .unit,
      .err .extensionsNotApplicable 0#3] := by decide

/-! ### Steps -/

/-- A presented frame that is no row is answered (the line `[FF FF FF FF FF]` of V-CI). -/
theorem test_step_unlisted_frame :
    (after (step (waiting [.frame ⟨0xFF#8, 0xFF#8, 0xFF#8, 0xFF#8, 0xFF#8⟩]))).map (fun t => t.log.map Answer.response) =
      some [.err .unrecognizedProtocolType 0#3, .err .unrecognizedProtocolVersion 0#3,
        .err .reservedByteViolation 3#3, .err .unrecognizedProtocolType 0#3] := by decide

/-- A request drives the ports it carries. -/
theorem test_step_request :
    (after (step (waiting [.request 0x4#4 { Operands.undriven with w := ⟨0x30000000#32, 0#32, 0#32, 0#32⟩ }]))).map
      (fun t => (t.pending, t.opSel, t.operands.w.w0, t.resp.res)) = some ([], 0x4#4, 0x30000000#32, 0x02#8) := by decide

/-- The first instruction after reset is the one that withFetchWord places. -/
theorem test_step_placed_word :
    (after (step (State.reset.withFetchWord 32 0x30000000))).map (fun t => (t.pending, t.resp.res)) =
      some ([], 0x02#8) := by decide

theorem test_step_idle : after (step State.reset) = some State.reset := by decide

/-! ### The host's procedures: programs P1, P2, P3 of 95_test_vectors.md -/

/-- Zero wherever the stream has no word. -/
def noFiller : Nat → Nat → Word := fun _ _ => 0#32

/-- The stream of program P1. -/
def streamP1 : List Word :=
  [0x10F80000#32, 0x2190407F#32, 0x42904000#32, 0x80000000#32, 0x53000000#32, 0x11111111#32, 0x22222222#32,
   0x33333333#32, 0xB4000000#32, 0xAAAAAAAA#32, 0xBBBBBBBB#32]

theorem test_walk_P1 :
    (walkStream Params.default noFiller streamP1).2 = 11 ∧
    (walkStream Params.default noFiller streamP1).1.map (fun q => (q.start, q.words, q.truncated)) =
      [(0, 1, false), (1, 1, false), (2, 2, false), (4, 4, false), (8, 3, false)] ∧
    (walkStream Params.default noFiller streamP1).1.map WalkedPacket.group = [.ok 0, .ok 1, .ok 2, .ok 3, .ok 4] := by
  decide

theorem test_walk_P1_truncated :
    (walkStream Params.default noFiller [0x20903C7F#32, 0x5A000000#32, 0x00000001#32]).2 = 5 ∧
    (walkStream Params.default noFiller [0x20903C7F#32, 0x5A000000#32, 0x00000001#32]).1.map
      (fun q => (q.start, q.words, q.truncated)) = [(0, 1, false), (1, 4, true)] := by decide

theorem test_assembly_P2 :
    assembleMessage Params.default [0x90#8, 0x3C#8, 0x7F#8, 0xC5#8, 0x07#8] =
      .message [0x90#8, 0x3C#8, 0x7F#8] [0xC5#8, 0x07#8] ∧
    assembleMessage Params.default [0xF8#8, 0xF0#8] = .message [0xF8#8] [0xF0#8] ∧
    assembleMessage Params.default [0xF0#8, 0x7E#8, 0x7F#8, 0x09#8, 0x01#8, 0xF7#8, 0xE0#8] =
      .message [0xF0#8, 0x7E#8, 0x7F#8, 0x09#8, 0x01#8, 0xF7#8] [0xE0#8] := by decide

/-- Log entries 13 and 21, the choices of this host: a byte that fails, and sequences that end early. -/
theorem test_assembly_stops :
    assembleMessage Params.default [0x80#8, 0x3C#8, 0x90#8] = .failed .invalidDataByte [0x90#8] ∧
    assembleMessage Params.default [0xF0#8, 0x01#8] = .incomplete [0xF0#8, 0x01#8] ∧
    assembleMessage Params.default [0x90#8, 0x3C#8] = .incomplete [0x90#8, 0x3C#8] ∧
    assembleMessage Params.default [] = .incomplete [] ∧
    assembleMessage Params.default [0xF2#8] = .failed .unresolvedDataByteCount [0xF2#8] := by decide

theorem test_verdicts_P3 :
    frameAccepted Params.default ⟨0x01#8, 0x00#8, 0x03#8, 0x00#8, 0x00#8⟩ = true ∧
    frameAccepted Params.default ⟨0x02#8, 0x00#8, 0x00#8, 0x00#8, 0x01#8⟩ = false ∧
    frameAccepted Params.default ⟨0x03#8, 0x00#8, 0x00#8, 0x00#8, 0x00#8⟩ = false := by decide

/-! ### Witnesses: what meets the hypotheses of each obligation, clause by clause -/

/-- A frame of the table, one that is no row. -/
def goodFrame : Frame := ⟨0x01#8, 0x00#8, 0x03#8, 0x00#8, 0x00#8⟩
def badFrame : Frame := ⟨0x03#8, 0x01#8, 0xFF#8, 0x05#8, 0x06#8⟩

/-- Port contents with every port driven, and a second one that differs in bits no operation but the named ones reads. -/
def drivenPorts : Operands :=
  { w := ⟨0xB4000000#32, 1#32, 2#32, 3#32⟩, v := 0x10#8, sb := 0xF2#8, db := 0x3C#8, n := ⟨0x01#8, 0x00#8, 0x03#8, 0x00#8, 0x07#8⟩ }

theorem witness_DecodeOfEncodeIsTheInstruction :
    (Instr.m1SystemRealTime 0x8#4).wf = true ∧ (Instr.m1SystemRealTime 0xF#4).wf = true ∧
    (Instr.negMidi2 0xFF#8).wf = true := by decide

theorem witness_EncodeOfDecodeIsTheWord :
    decode (.op 0xF#4) = .ok .opRsvdF ∧ decode (.header 0xFFFFFFFF#32) = .ok (.umpReservedF 0xF#4 0xFFFFFF#24) ∧
    decode (.byte 0x7F#8) = .ok (.m1Data 0x7F#7) ∧ decode (.frame goodFrame) = .ok (.negMidi1 0x03#8) := by decide

theorem witness_NegotiationRowsAreTheAcceptedFrames :
    Params.default.strictExtReserved = false ∧ frameAccepted Params.default goodFrame = true ∧
    frameAccepted Params.default badFrame = false := by decide

theorem witness_StepRunsTheDecodedInstruction :
    ((waiting [.request 0xB#4 drivenPorts]).pending = [.request 0xB#4 drivenPorts] ∧ decode (.op 0xB#4) = .ok .ciVal) ∧
    ((waiting [.header 0x30000000#32, .byte 0x90#8]).pending = [.header 0x30000000#32, .byte 0x90#8] ∧
      decode (.header 0x30000000#32) = .ok (.umpDataInclSystemExclusive 0x0#4 0x000000#24)) ∧
    ((waiting [.byte 0x90#8]).pending = [.byte 0x90#8] ∧ decode (.byte 0x90#8) = .ok (.m1NoteOn 0x0#4)) ∧
    ((waiting [.frame goodFrame]).pending = [.frame goodFrame] ∧ decode (.frame goodFrame) = .ok (.negMidi1 0x03#8)) ∧
    State.reset.pending = [] := by decide

theorem witness_PlacedWordIsRunNext :
    decodeTableWord 4 0xC = some .ciExt ∧ decodeTableWord 8 0xF = some .opRsvdF ∧
    decodeTableWord 8 0x10 = some (.m1Data 0x10#7) ∧ decodeTableWord 8 0xFF = some (.m1SystemRealTime 0xF#4) ∧
    decodeTableWord 32 0xFFFFFFFF = some (.umpReservedF 0xF#4 0xFFFFFF#24) ∧
    decodeTableWord 40 0x0100FF0000 = some (.negMidi1 0xFF#8) := by decide

theorem witness_UnlistedFramesAreAnswered :
    (waiting [.frame badFrame]).pending = [.frame badFrame] ∧
    decode (.frame badFrame) = .error .unrecognizedProtocolVersion := by decide

theorem witness_NothingStopsTheBlock :
    (waiting [.request 0xF#4 drivenPorts]).pending = [.request 0xF#4 drivenPorts] := by decide

theorem witness_RequestsAreAnsweredByThePureFunction :
    (waiting [.request 0x7#4 drivenPorts, .frame badFrame]).pending = [.request 0x7#4 drivenPorts, .frame badFrame] := by
  decide

/-- A state the invariant holds of, with transactions pending and an answer in its record. -/
def answeredOnce : State :=
  { State.reset with
    opSel := 0xB#4, operands := drivenPorts, resp := ⟨false, 7#4, 4#3, 0#8⟩, pending := [.frame goodFrame]
    log := [⟨0xB#4, .err .reservedByteViolation 4#3⟩] }

theorem witness_StepKeepsLegalAnswers : answeredOnce.Inv ∧ ∃ t, step answeredOnce = .next t :=
  ⟨⟨by decide, by decide, by decide⟩, _, rfl⟩

/-- R12, R136: group 16 and byte index 2 are answers of some builds only. -/
theorem test_legality_follows_the_parameters :
    (Answer.mk 0x1#4 (.ok (.group 16))).legal Params.default = false ∧
    (Answer.mk 0x1#4 (.ok (.group 16))).legal groups16 = true ∧
    (Answer.mk 0xB#4 (.err .reservedByteViolation 2#3)).legal Params.default = false ∧
    (Answer.mk 0xB#4 (.err .reservedByteViolation 2#3)).legal strict = true := by decide

theorem witness_StepKeepsParametersAndRecord : ∃ t, step answeredOnce = .next t := ⟨_, rfl⟩

/-- For one operation of each port, two contents that differ, and agree in the bits that operation reads. -/
theorem witness_ResponseDependsOnlyOnTheListedBits :
    drivenPorts ≠ Operands.undriven ∧
    readBits Params.default 0x1#4 drivenPorts = readBits Params.default 0x1#4 { Operands.undriven with v := 0x10#8 } ∧
    readBits Params.default 0x4#4 drivenPorts =
      readBits Params.default 0x4#4 { Operands.undriven with w := ⟨0xBFFFFFFF#32, 0#32, 0#32, 0#32⟩ } ∧
    readBits Params.default 0x7#4 drivenPorts = readBits Params.default 0x7#4 { Operands.undriven with sb := 0xF2#8 } ∧
    readBits Params.default 0xB#4 drivenPorts =
      readBits Params.default 0xB#4 { Operands.undriven with n := ⟨0xFF#8, 0xFF#8, 0xFF#8, 0x00#8, 0x07#8⟩ } ∧
    readBits strict 0xB#4 drivenPorts =
      readBits strict 0xB#4 { Operands.undriven with n := ⟨0xFF#8, 0xFF#8, 0x00#8, 0x00#8, 0x07#8⟩ } ∧
    readBits Params.default 0xC#4 drivenPorts =
      readBits Params.default 0xC#4 { Operands.undriven with n := ⟨0x01#8, 0xFF#8, 0xFF#8, 0xFF#8, 0xFF#8⟩ } ∧
    readBits Params.default 0xE#4 drivenPorts = readBits Params.default 0xE#4 Operands.undriven := by decide

theorem witness_ReorderedTransactionsGetTheSameAnswers :
    [Transaction.frame badFrame, .header 0x30000000#32].Perm (waiting [.header 0x30000000#32, .frame badFrame]).pending := by
  decide

theorem witness_RepeatedRequestsGetTheSameResponse :
    (waiting [.request 0x2#4 drivenPorts, .request 0x2#4 drivenPorts, .byte 0x90#8]).pending =
      .request 0x2#4 drivenPorts :: .request 0x2#4 drivenPorts :: [.byte 0x90#8] := by decide

/-- V-PURE: a request that fails, then one that does not. -/
theorem witness_AnEarlierRequestLeavesNoTrace :
    (waiting [.request 0xB#4 drivenPorts, .request 0x4#4 drivenPorts]).pending =
      .request 0xB#4 drivenPorts :: .request 0x4#4 drivenPorts :: [] ∧
    (respond Params.default 0xB#4 drivenPorts).isOk = false := by decide

theorem witness_MessageTypeCheck :
    (withRaw 0x10#8).operands.v.toNat > 15 ∧
    ((0xF, MessageType.reservedF, 4) ∈ headerTable ∧ (withRaw 0x0F#8).operands.v.toNat = 0xF) ∧
    ((0x0, MessageType.utility, 1) ∈ headerTable ∧ (withRaw 0x00#8).operands.v.toNat = 0x0) := by decide

theorem witness_GroupCheck :
    (withRaw 0x0F#8).operands.v.toNat ≤ 15 ∧
    ((withRaw 0x10#8).operands.v.toNat = 16 ∧ (withRaw 0x10#8).params.groupMax = .max15) ∧
    ((under groups16 (withRaw 0x10#8)).operands.v.toNat = 16 ∧
      (under groups16 (withRaw 0x10#8)).params.groupMax = .max16) ∧
    (withRaw 0x11#8).operands.v.toNat ≥ 17 := by decide

theorem witness_HeaderMessageType :
    ((0x0, MessageType.utility, 1) ∈ headerTable ∧ (withWord 0x0FFFFFFF#32).operands.w.w0.toNat / 2 ^ 28 = 0x0) ∧
    ((0xF, MessageType.reservedF, 4) ∈ headerTable ∧ (withWord 0xF0000000#32).operands.w.w0.toNat / 2 ^ 28 = 0xF) := by
  decide

theorem witness_HeaderPacketLength :
    ((0xB, MessageType.reservedB, 3) ∈ headerTable ∧ (withWord 0xB4000000#32).operands.w.w0.toNat / 2 ^ 28 = 0xB) ∧
    ((0x5, MessageType.data, 4) ∈ headerTable ∧ (withWord 0x5FFFFFFF#32).operands.w.w0.toNat / 2 ^ 28 = 0x5) := by
  decide

theorem witness_StatusByteValidation :
    (withStatus 0x7F#8).operands.sb.toNat < 0x80 ∧ 0x80 ≤ (withStatus 0x80#8).operands.sb.toNat := by decide

theorem witness_StatusByteClassification :
    (withStatus 0x7F#8).operands.sb.toNat < 0x80 ∧
    ((0x8, ChannelMessage.noteOff, 2) ∈ channelTable ∧ (withStatus 0x80#8).operands.sb.toNat / 16 = 0x8) ∧
    ((0xE, ChannelMessage.pitchBendChange, 2) ∈ channelTable ∧ (withStatus 0xEF#8).operands.sb.toNat / 16 = 0xE) ∧
    (withStatus 0xF0#8).operands.sb.toNat = 0xF0 ∧
    (0xF1 ≤ (withStatus 0xF1#8).operands.sb.toNat ∧ (withStatus 0xF1#8).operands.sb.toNat ≤ 0xF7) ∧
    (0xF1 ≤ (withStatus 0xF7#8).operands.sb.toNat ∧ (withStatus 0xF7#8).operands.sb.toNat ≤ 0xF7) ∧
    0xF8 ≤ (withStatus 0xF8#8).operands.sb.toNat := by decide

theorem witness_DataByteCount :
    (withStatus 0x7F#8).operands.sb.toNat < 0x80 ∧
    ((0xC, ChannelMessage.programChange, 1) ∈ channelTable ∧ (withStatus 0xC0#8).operands.sb.toNat / 16 = 0xC) ∧
    (withStatus 0xF0#8).operands.sb.toNat = 0xF0 ∧
    (0xF1 ≤ (withStatus 0xF7#8).operands.sb.toNat ∧ (withStatus 0xF7#8).operands.sb.toNat ≤ 0xF7 ∧
      (withStatus 0xF7#8).params.sysCommonResolve = false) ∧
    ((0xF1, Result.ok (DataBytes.fixed 1)) ∈ systemCommonTable ∧
      (under resolve (withStatus 0xF1#8)).operands.sb.toNat = 0xF1 ∧
      (under resolve (withStatus 0xF1#8)).params.sysCommonResolve = true) ∧
    0xF8 ≤ (withStatus 0xF8#8).operands.sb.toNat := by decide

theorem witness_DataByteValidation :
    (withData 0x7F#8).operands.db.toNat < 0x80 ∧ 0x80 ≤ (withData 0x80#8).operands.db.toNat := by decide

theorem witness_ProtocolTypeOfAFrame :
    (withPayload ⟨0x01#8, 0xFF#8, 0#8, 0#8, 0#8⟩).operands.n.n0.toNat = 1 ∧
    (withPayload ⟨0x02#8, 0xFF#8, 0#8, 0#8, 0#8⟩).operands.n.n0.toNat = 2 ∧
    (withPayload ⟨0x00#8, 0xFF#8, 0#8, 0#8, 0#8⟩).operands.n.n0.toNat = 0 ∧
    3 ≤ (withPayload ⟨0x03#8, 0xFF#8, 0#8, 0#8, 0#8⟩).operands.n.n0.toNat := by decide

theorem witness_ProtocolVersionOfAFrame :
    (withPayload ⟨0x03#8, 0x01#8, 0#8, 0#8, 0#8⟩).operands.n.n1.toNat ≠ 0 ∧
    ((withPayload ⟨0x01#8, 0x00#8, 0#8, 0#8, 0#8⟩).operands.n.n1.toNat = 0 ∧
      (withPayload ⟨0x01#8, 0x00#8, 0#8, 0#8, 0#8⟩).operands.n.n0.toNat = 1) ∧
    ((withPayload ⟨0x02#8, 0x00#8, 0#8, 0#8, 0#8⟩).operands.n.n1.toNat = 0 ∧
      (withPayload ⟨0x02#8, 0x00#8, 0#8, 0#8, 0#8⟩).operands.n.n0.toNat = 2) ∧
    ((withPayload ⟨0x03#8, 0x00#8, 0#8, 0#8, 0#8⟩).operands.n.n1.toNat = 0 ∧
      3 ≤ (withPayload ⟨0x03#8, 0x00#8, 0#8, 0#8, 0#8⟩).operands.n.n0.toNat) := by decide

theorem witness_ReservedBytesOfAFrame :
    ((under strict (withPayload ⟨0x01#8, 0#8, 0x04#8, 0#8, 0#8⟩)).params.strictExtReserved = true ∧
      (under strict (withPayload ⟨0x01#8, 0#8, 0x04#8, 0#8, 0#8⟩)).operands.n.n2.toNat / 4 ≠ 0) ∧
    ((under strict (withPayload ⟨0x01#8, 0#8, 0x03#8, 0x01#8, 0#8⟩)).operands.n.n2.toNat / 4 = 0 ∧
      (under strict (withPayload ⟨0x01#8, 0#8, 0x03#8, 0x01#8, 0#8⟩)).operands.n.n3.toNat ≠ 0) ∧
    ((withPayload ⟨0x01#8, 0#8, 0xFF#8, 0#8, 0x80#8⟩).params.strictExtReserved = false ∧
      (withPayload ⟨0x01#8, 0#8, 0xFF#8, 0#8, 0x80#8⟩).operands.n.n3.toNat = 0 ∧
      (withPayload ⟨0x01#8, 0#8, 0xFF#8, 0#8, 0x80#8⟩).operands.n.n4.toNat ≠ 0) ∧
    ((withPayload ⟨0x03#8, 0x09#8, 0xFF#8, 0#8, 0#8⟩).params.strictExtReserved = false ∧
      (withPayload ⟨0x03#8, 0x09#8, 0xFF#8, 0#8, 0#8⟩).operands.n.n3.toNat = 0 ∧
      (withPayload ⟨0x03#8, 0x09#8, 0xFF#8, 0#8, 0#8⟩).operands.n.n4.toNat = 0) := by decide

theorem witness_ExtensionFlagsOfAFrame :
    (withPayload ⟨0x01#8, 0x01#8, 0xFE#8, 0x05#8, 0#8⟩).operands.n.n0.toNat = 1 ∧
    (withPayload ⟨0x02#8, 0#8, 0x03#8, 0#8, 0#8⟩).operands.n.n0.toNat = 2 ∧
    (withPayload ⟨0x00#8, 0#8, 0x03#8, 0#8, 0#8⟩).operands.n.n0.toNat = 0 ∧
    3 ≤ (withPayload ⟨0x03#8, 0#8, 0x03#8, 0#8, 0#8⟩).operands.n.n0.toNat := by decide

theorem witness_SystemRowsAnswerTheirTable :
    8 ≤ (0x8#4 : Nibble).toNat ∧ 8 ≤ (0xF#4 : Nibble).toNat ∧
    (State.reset.params.sysCommonResolve = false ∧
      (Instr.m1SystemCommonF7, 0xF7) ∈
        [(Instr.m1SystemCommonF1, 0xF1), (.m1SystemCommonF2, 0xF2), (.m1SystemCommonF3, 0xF3), (.m1SystemCommonF4, 0xF4),
         (.m1SystemCommonF5, 0xF5), (.m1SystemCommonF6, 0xF6), (.m1SystemCommonF7, 0xF7)]) ∧
    (under resolve State.reset).params.sysCommonResolve = true := by decide

theorem witness_OperationsChangeOnlyTheResponse :
    (encode .ciVal = .op 0xB#4 ∧ ∃ t, exec .ciVal answeredOnce = .next t) ∧
    (encode .opRsvdF = .op 0xF#4 ∧ ∃ t, exec .opRsvdF answeredOnce = .next t) :=
  ⟨⟨rfl, _, rfl⟩, rfl, _, rfl⟩

theorem witness_HeaderRowsChangeOnlyTheHeaderWord :
    encode (.umpReservedB 0x4#4 0x000001#24) = .header 0xB4000001#32 ∧
    ∃ t, exec (.umpReservedB 0x4#4 0x000001#24) answeredOnce = .next t := ⟨rfl, _, rfl⟩

theorem witness_ByteRowsChangeOnlyTheBytePorts :
    (encode (.m1Data 0x7F#7) = .byte 0x7F#8 ∧ ∃ t, exec (.m1Data 0x7F#7) answeredOnce = .next t) ∧
    (encode .m1SystemExclusive = .byte 0xF0#8 ∧ ∃ t, exec .m1SystemExclusive answeredOnce = .next t) :=
  ⟨⟨rfl, _, rfl⟩, rfl, _, rfl⟩

theorem witness_FrameRowsChangeOnlyTheNegotiationPort :
    encode (.negMidi2 0xFF#8) = .frame ⟨0x02#8, 0x00#8, 0xFF#8, 0x00#8, 0x00#8⟩ ∧
    ∃ t, exec (.negMidi2 0xFF#8) answeredOnce = .next t := ⟨rfl, _, rfl⟩

theorem witness_ErrorsDriveThePort :
    (ErrorName.malformedHeader, 1) ∈ errorTable ∧ (ErrorName.illegalOp, 15) ∈ errorTable := by decide

/-- Two legal answers of one operation that show the same port, for a value and for an error. -/
theorem witness_PackingLosesNothing :
    ∃ a b c d : Answer, (a.legal groups16 = true ∧ b.legal Params.default = true ∧ a.sel = b.sel ∧ a.response.port = b.response.port) ∧
      (c.legal Params.default = true ∧ d.legal strict = true ∧ c.sel = d.sel ∧ c.response.port = d.response.port) ∧ a.sel ≠ c.sel :=
  ⟨⟨0x7#4, .ok (.dataBytes .untilEox)⟩, ⟨0x7#4, .ok (.dataBytes .untilEox)⟩, ⟨0xB#4, .err .reservedByteViolation 4#3⟩,
    ⟨0xB#4, .err .reservedByteViolation 4#3⟩, by decide, by decide, by decide⟩

theorem witness_ValuesDriveThePort :
    (Value.messageType .reservedF, 0x0F) ∈ packingTable ∧ (Value.message (.system .exclusive), 0x82) ∈ packingTable ∧
    (Value.dataBytes .untilEox, 0x80) ∈ packingTable ∧ (0 ≤ 16 ∧ 16 ≤ 16) ∧ (1 ≤ 1 ∧ 1 ≤ 4) ∧ (1 ≤ 4 ∧ 4 ≤ 4) ∧
    (0 ≤ 2 ∧ 2 ≤ 2) := by decide

theorem witness_FieldExtraction :
    ((0 ≤ 31 ∧ 31 < 32) ∧ (7 ≤ 7 ∧ 7 < 8)) ∧ (32 % 4 = 0 ∧ 7 < 32 / 4) ∧ (8 % 4 = 0 ∧ 1 < 8 / 4) := by decide

/-- The walk of program P1 has a first, a middle and a last packet. -/
theorem witness_StreamWalkCutsTheWholeStream :
    ∃ before q after, (walkStream Params.default noFiller streamP1).1 = before ++ q :: after ∧ before.length = 2 ∧
      after.length = 2 ∧ q ∈ (walkStream Params.default noFiller streamP1).1 :=
  ⟨(walkStream Params.default noFiller streamP1).1.take 2, ⟨2, 2, .ok .midi2ChannelVoice, .ok 2, false⟩,
    (walkStream Params.default noFiller streamP1).1.drop 3, by decide, by decide, by decide, by decide⟩

theorem witness_OnlyTheLastPacketIsTruncated :
    (walkStream Params.default noFiller [0x20903C7F#32, 0x5A000000#32, 0x00000001#32]).1 =
      [] ++ ⟨0, 1, .ok .midi1ChannelVoice, .ok 0, false⟩ :: [⟨1, 4, .ok .data, .ok 10, true⟩] ∧
    [WalkedPacket.mk 1 4 (.ok .data) (.ok 10) true] ≠ [] := by decide

theorem witness_FixedMessagesTakeTheirCount :
    (m1Ndb Params.default 0x90#8 = .ok (.fixed 2) ∧ [0x3C#8, 0x7F#8].length = 2 ∧
      ∀ b ∈ [(0x3C#8 : Byte), 0x7F#8], b.toNat < 0x80) ∧
    (m1Ndb Params.default 0xF8#8 = .ok (.fixed 0) ∧ ([] : List Byte).length = 0) := by decide

theorem witness_ExclusiveMessagesEndAtTheirTerminator :
    ∀ b ∈ [(0x7E#8 : Byte), 0x7F#8, 0x09#8, 0x01#8], b.toNat < 0x80 := by decide

theorem witness_ExclusiveMessagesWithoutTerminatorStayOpen :
    ∀ b ∈ [(0x00#8 : Byte), 0x7F#8], b.toNat < 0x80 := by decide

end Sys2Proof.Tests
end

namespace Sys2Proof.Machine

/-! The state after reset, one lemma per field: what a proof about a run from reset starts with. -/

@[simp] theorem State.reset_params : State.reset.params = Params.default := rfl
@[simp] theorem State.reset_opSel : State.reset.opSel = 0#4 := rfl
@[simp] theorem State.reset_operands : State.reset.operands = Operands.undriven := rfl
@[simp] theorem State.reset_resp : State.reset.resp = ResponsePort.quiet := rfl
@[simp] theorem State.reset_pending : State.reset.pending = [] := rfl
@[simp] theorem State.reset_log : State.reset.log = [] := rfl

/-- Settles O13: field by field, since `Params.default`, `ResponsePort.quiet` and `Operands.undriven` name the values the
statement writes out. -/
theorem resetHoldsTheNamedValues : Obligations.ResetHoldsTheNamedValues :=
  ⟨State.reset_params, State.reset_pending, State.reset_log, State.reset_resp, State.reset_opSel, State.reset_operands⟩

end Sys2Proof.Machine

namespace Sys2Proof.Machine

/-! ### What each operation can answer

One lemma per operation: its values with their range, and its errors by name (R152). -/

theorem mtChk_cases (v : RawValue) : (∃ t, mtChk v = .ok t) ∨ mtChk v = .err .malformedHeader 0#3 := by
  unfold mtChk
  split
  · exact .inr rfl
  · exact .inl ⟨_, rfl⟩

theorem grpChk_cases (p : Params) (v : RawValue) :
    (∃ g, g ≤ groupBound p ∧ grpChk p v = .ok g) ∨ grpChk p v = .err .invalidGroup 0#3 := by
  unfold grpChk
  split
  · exact .inr rfl
  · next h => exact .inl ⟨_, Nat.not_lt.mp h, rfl⟩

theorem m1Sval_cases (sb : Byte) :
    (sb.getLsbD 7 = true ∧ m1Sval sb = .ok sb) ∨ m1Sval sb = .err .invalidStatusByte 0#3 := by
  unfold m1Sval
  split
  · next h => exact .inl ⟨h, rfl⟩
  · exact .inr rfl

theorem m1Class_cases (sb : Byte) : (∃ m, m1Class sb = .ok m) ∨ m1Class sb = .err .invalidStatusByte 0#3 := by
  unfold m1Class
  obtain ⟨-, h⟩ | h := m1Sval_cases sb <;> rw [h]
  · rw [Result.bind_ok]
    cases Hex.ofNibble (nib sb 1)
    case xF => cases Hex.ofNibble (nib sb 0) <;> simp
    all_goals simp
  · exact .inr rfl

theorem ChannelMessage.count_le_two (t : ChannelMessage) : t.count ≤ 2 := by
  cases t <;> decide

theorem sysCommon_cases (sb : Byte) :
    (∃ n, n ≤ 2 ∧ sysCommon sb = .ok (.fixed n)) ∨ sysCommon sb = .err .unresolvedDataByteCount 0#3 := by
  unfold sysCommon
  repeat' split
  all_goals simp

theorem m1Ndb_cases (p : Params) (sb : Byte) :
    (∃ n, n ≤ 2 ∧ m1Ndb p sb = .ok (.fixed n)) ∨ m1Ndb p sb = .ok .untilEox ∨
    m1Ndb p sb = .err .invalidStatusByte 0#3 ∨ m1Ndb p sb = .err .unresolvedDataByteCount 0#3 := by
  unfold m1Ndb
  obtain ⟨m, h⟩ | h := m1Class_cases sb <;> rw [h]
  · match m with
    | .channel t => exact .inl ⟨_, t.count_le_two, rfl⟩
    | .system .realTime => exact .inl ⟨0, by decide, rfl⟩
    | .system .exclusive => exact .inr (.inl rfl)
    | .system .common =>
      cases p.sysCommonResolve with
      | true =>
        obtain h | h := sysCommon_cases sb
        · exact .inl h
        · exact .inr (.inr (.inr h))
      | false => exact .inr (.inr (.inr rfl))
  · exact .inr (.inr (.inl rfl))

theorem m1Dval_cases (db : Byte) :
    (db.getLsbD 7 = false ∧ m1Dval db = .ok db) ∨ m1Dval db = .err .invalidDataByte 0#3 := by
  unfold m1Dval
  split
  · exact .inr rfl
  · next h => exact .inl ⟨Bool.not_eq_true _ ▸ h, rfl⟩

theorem ciPtype_cases (f : Frame) :
    (∃ t, ciPtype f = .ok t) ∨ ciPtype f = .err .unrecognizedProtocolType 0#3 := by
  unfold ciPtype
  repeat' split
  · exact .inl ⟨_, rfl⟩
  · exact .inl ⟨_, rfl⟩
  · exact .inr rfl

theorem ciPver_cases (f : Frame) :
    (∃ v, ciPver f = .ok v) ∨ ciPver f = .err .unrecognizedProtocolVersion 0#3 ∨
    ciPver f = .err .unrecognizedProtocolType 0#3 := by
  unfold ciPver
  split
  · exact .inr (.inl rfl)
  · obtain ⟨t, h⟩ | h := ciPtype_cases f <;> rw [h]
    · cases t <;> exact .inl ⟨_, rfl⟩
    · exact .inr (.inr rfl)

theorem ciVal_cases (p : Params) (f : Frame) :
    ciVal p f = .ok () ∨ (p.strictExtReserved = true ∧ ciVal p f = .err .reservedByteViolation 2#3) ∨
    ciVal p f = .err .reservedByteViolation 3#3 ∨ ciVal p f = .err .reservedByteViolation 4#3 := by
  unfold ciVal
  split
  · next h => exact .inr (.inl ⟨h.1, rfl⟩)
  · repeat' split
    · exact .inr (.inr (.inl rfl))
    · exact .inr (.inr (.inr rfl))
    · exact .inl rfl

theorem ciExt_cases (f : Frame) :
    (∃ e, ciExt f = .ok e) ∨ ciExt f = .err .unrecognizedProtocolType 0#3 ∨
    ciExt f = .err .extensionsNotApplicable 0#3 := by
  unfold ciExt
  obtain ⟨t, h⟩ | h := ciPtype_cases f <;> rw [h]
  · cases t
    · exact .inl ⟨_, rfl⟩
    · exact .inr (.inr rfl)
  · exact .inr (.inl rfl)

/-! ### Every answer of the block is legal, and so is the port it drives -/

@[simp] theorem Answer.legal_ok (p : Params) (sel : Nibble) (v : Value) :
    (Answer.mk sel (.ok v)).legal p = legalValue p sel v := rfl

@[simp] theorem Answer.legal_err (p : Params) (sel : Nibble) (e : ErrorName) (i : BitVec 3) :
    (Answer.mk sel (.err e i)).legal p = legalError p sel e i := rfl

/-- R20's function answers every request with an answer its operation can give. -/
theorem respond_legal (p : Params) (sel : Nibble) (x : Operands) :
    (Answer.mk sel (respond p sel x)).legal p = true := by
  cases hc : Hex.ofNibble sel <;> simp only [respond, hc]
  case x0 => obtain ⟨t, h⟩ | h := mtChk_cases x.v <;> simp [h, legalValue, legalError, hc]
  case x1 =>
    obtain ⟨g, hg, h⟩ | h := grpChk_cases p x.v
    · simpa [h, legalValue, hc] using hg
    · simp [h, legalError, hc]
  case x2 => simp [umpMt_eq, legalValue, hc]
  case x3 =>
    have hg : (nib x.w.w0 6).toNat ≤ 15 := Nat.le_of_lt_succ (nib x.w.w0 6).isLt
    simpa [umpGrp_eq, legalValue, hc] using hg
  case x4 => simp [umpLen_eq, legalValue, hc, packetWords_range]
  case x5 =>
    obtain ⟨hb, h⟩ | h := m1Sval_cases x.sb
    · simpa [h, legalValue, hc] using hb
    · simp [h, legalError, hc]
  case x6 => obtain ⟨m, h⟩ | h := m1Class_cases x.sb <;> simp [h, legalValue, legalError, hc]
  case x7 =>
    obtain ⟨n, hn, h⟩ | h | h | h := m1Ndb_cases p x.sb
    · simpa [h, legalValue, hc] using hn
    · simp [h, legalValue, hc]
    · simp [h, legalError, hc]
    · simp [h, legalError, hc]
  case x8 =>
    obtain ⟨hb, h⟩ | h := m1Dval_cases x.db
    · simpa [h, legalValue, hc] using hb
    · simp [h, legalError, hc]
  case x9 => obtain ⟨t, h⟩ | h := ciPtype_cases x.n <;> simp [h, legalValue, legalError, hc]
  case xA => obtain ⟨v, h⟩ | h | h := ciPver_cases x.n <;> simp [h, legalValue, legalError, hc]
  case xB =>
    obtain h | ⟨hs, h⟩ | h | h := ciVal_cases p x.n
    · simp [h, legalValue, hc]
    · simpa [h, legalError, hc] using hs
    · simp [h, legalError, hc]
    · simp [h, legalError, hc]
  case xC => obtain ⟨e, h⟩ | h | h := ciExt_cases x.n <;> simp [h, legalValue, legalError, hc]
  all_goals simp [illegalOp, legalError, hc]

/-- R150: `info` is a byte index for `ReservedByteViolation`, and 0 for every other error. -/
theorem info_of_legalError (p : Params) (sel : Nibble) (e : ErrorName) (i : BitVec 3)
    (h : legalError p sel e i = true) :
    (e = .reservedByteViolation ∧ (i = 2#3 ∨ i = 3#3 ∨ i = 4#3)) ∨ (e ≠ .reservedByteViolation ∧ i = 0#3) := by
  cases hc : Hex.ofNibble sel <;> simp only [legalError, hc, decide_eq_true_eq, Bool.false_eq_true] at h
  case xB =>
    obtain ⟨he, ⟨hi, -⟩ | hi⟩ := h
    · exact .inl ⟨he, .inl hi⟩
    · exact .inl ⟨he, .inr hi⟩
  case x7 | xA | xC =>
    obtain ⟨rfl | rfl, hi⟩ := h <;> exact .inr ⟨by decide, hi⟩
  all_goals
    obtain ⟨rfl, hi⟩ := h
    exact .inr ⟨by decide, hi⟩

theorem Answer.port_legal (p : Params) (a : Answer) (h : a.legal p = true) : a.response.port.legal = true := by
  obtain ⟨sel, v | ⟨e, i⟩⟩ := a
  · rfl
  · obtain ⟨rfl, hi⟩ | ⟨he, rfl⟩ := info_of_legalError p sel e i h
    · obtain rfl | rfl | rfl := hi <;> rfl
    · cases e
      case reservedByteViolation => exact absurd rfl he
      all_goals rfl

/-! ### Decoding loses nothing

Each decoder is inverted by `encode`, so the meaning of a decoded instruction follows from the code it came from. -/

theorem encode_decodeOp : ∀ sel : Nibble, encode (decodeOp sel) = .op sel := by decide

theorem encode_decodeByte : ∀ b : Byte, encode (decodeByte b) = .byte b := by decide

theorem encode_decodeHeader (w0 : Word) : encode (decodeHeader w0) = .header w0 := by
  have hw := headerWord_fields w0
  unfold MessageType.ofCode at hw
  unfold decodeHeader
  cases hc : Hex.ofNibble (nib w0 7) <;> simp only [hc] at hw <;> exact congrArg Code.header hw

theorem encode_of_decodeFrame (f : Frame) (i : Instr) (h : decodeFrame f = .ok i) : encode i = .frame f := by
  obtain ⟨n0, n1, n2, n3, n4⟩ := f
  unfold decodeFrame at h
  split_ifs at h with h1 h0 h3 h4 ht <;> cases h
  · simp_all [encode, acceptedFrame]
  · simp_all [encode, acceptedFrame]

/-! ### The step, by the transaction that is next -/

/-- The block answers the request `sel` on its ports as they stand, by R20's function. -/
def State.respondTo (s : State) (sel : Nibble) : State := s.answer sel (respond s.params sel s.operands)

theorem step_of_fetch_ok (s s' : State) (c : Code) (i : Instr) (hf : s.fetch = some (c, s'))
    (hd : decode c = .ok i) : step s = exec i s' := by
  simp only [step, hf, hd]

theorem step_of_fetch_error (s s' : State) (c : Code) (e : DecodeError) (hf : s.fetch = some (c, s'))
    (hd : decode c = .error e) : step s = .next (presentUndecoded c s') := by
  simp only [step, hf, hd]

theorem step_idle (s : State) (h : s.pending = []) : step s = .next s := by
  simp only [step, fetch_nil s h]

theorem step_request (s : State) (sel : Nibble) (x : Operands) (rest : List Transaction)
    (h : s.pending = .request sel x :: rest) :
    step s = .next (State.respondTo { s with opSel := sel, operands := x, pending := rest } sel) := by
  rw [step_of_fetch_ok s _ _ _ (fetch_request s sel x rest h) rfl]
  exact exec_of_encode_op _ _ _ (encode_decodeOp sel)

theorem step_header (s : State) (w0 : Word) (rest : List Transaction) (h : s.pending = .header w0 :: rest) :
    step s = .next (presentHeader w0 { s with pending := rest }) := by
  rw [step_of_fetch_ok s _ _ _ (fetch_header s w0 rest h) rfl]
  exact exec_of_encode_header _ _ _ (encode_decodeHeader w0)

theorem step_byte (s : State) (b : Byte) (rest : List Transaction) (h : s.pending = .byte b :: rest) :
    step s = .next (presentByte b { s with pending := rest }) := by
  rw [step_of_fetch_ok s _ _ _ (fetch_byte s b rest h) rfl]
  exact exec_of_encode_byte _ _ _ (encode_decodeByte b)

/-- A frame is presented whether or not it is a row of the table. -/
theorem step_frame (s : State) (f : Frame) (rest : List Transaction) (h : s.pending = .frame f :: rest) :
    step s = .next (presentFrame f { s with pending := rest }) := by
  cases hd : decode (.frame f) with
  | ok i =>
    rw [step_of_fetch_ok s _ _ i (fetch_frame s f rest h) hd]
    exact exec_of_encode_frame i f _ (encode_of_decodeFrame f i hd)
  | error e => exact step_of_fetch_error s _ _ e (fetch_frame s f rest h) hd

/-! ### Presenting a value is driving its port and asking the operations of its unit -/

theorem presentHeader_eq_respondTo (w0 : Word) (s : State) :
    presentHeader w0 s = (((s.driveHeader w0).respondTo 0x2#4).respondTo 0x3#4).respondTo 0x4#4 := rfl

theorem presentByte_eq_respondTo (b : Byte) (s : State) :
    presentByte b s =
      ((((s.driveByte b).respondTo 0x5#4).respondTo 0x6#4).respondTo 0x7#4).respondTo 0x8#4 := rfl

theorem presentFrame_eq_respondTo (f : Frame) (s : State) :
    presentFrame f s =
      ((((s.driveFrame f).respondTo 0x9#4).respondTo 0xA#4).respondTo 0xB#4).respondTo 0xC#4 := rfl

/-! ### The invariant -/

/-- The invariant speaks of the parameters, the response port and the record only: it holds whatever the select, the
operand ports and the pending list become. -/
theorem State.Inv.of_eq {s t : State} (h : s.Inv) (hp : t.params = s.params) (hr : t.resp = s.resp)
    (hl : t.log = s.log) : t.Inv where
  portLegal := hr ▸ h.portLegal
  answersLegal := hp ▸ hl ▸ h.answersLegal
  portShowsLast := hr ▸ hl ▸ h.portShowsLast

theorem State.Inv.respondTo {s : State} (h : s.Inv) (sel : Nibble) : (s.respondTo sel).Inv where
  portLegal := Answer.port_legal s.params _ (respond_legal s.params sel s.operands)
  answersLegal := by
    intro a ha
    obtain ha | rfl : a ∈ s.log ∨ a = ⟨sel, respond s.params sel s.operands⟩ := by
      simpa [State.respondTo] using ha
    · exact h.answersLegal a ha
    · exact respond_legal s.params sel s.operands
  portShowsLast := by simp [State.respondTo, portAfter]

theorem State.Inv.presentHeader {s : State} (h : s.Inv) (w0 : Word) : (presentHeader w0 s).Inv := by
  have hd : (s.driveHeader w0).Inv := h.of_eq rfl rfl rfl
  rw [presentHeader_eq_respondTo]
  exact ((hd.respondTo _).respondTo _).respondTo _

theorem State.Inv.presentByte {s : State} (h : s.Inv) (b : Byte) : (presentByte b s).Inv := by
  have hd : (s.driveByte b).Inv := h.of_eq rfl rfl rfl
  rw [presentByte_eq_respondTo]
  exact (((hd.respondTo _).respondTo _).respondTo _).respondTo _

theorem State.Inv.presentFrame {s : State} (h : s.Inv) (f : Frame) : (presentFrame f s).Inv := by
  have hd : (s.driveFrame f).Inv := h.of_eq rfl rfl rfl
  rw [presentFrame_eq_respondTo]
  exact (((hd.respondTo _).respondTo _).respondTo _).respondTo _

/-- Settles O11, by the next transaction: a step is idle, or drives ports, which the invariant does not speak of, and asks
operations one after the other, each of which keeps it. -/
theorem stepKeepsLegalAnswers : Obligations.StepKeepsLegalAnswers := by
  intro s t hs ht
  cases hp : s.pending with
  | nil =>
    obtain rfl := Host.Outcome.next.inj ((step_idle s hp).symm.trans ht)
    exact hs
  | cons tr rest =>
    have hr : State.Inv { s with pending := rest } := hs.of_eq rfl rfl rfl
    cases tr with
    | request sel x =>
      obtain rfl := Host.Outcome.next.inj ((step_request s sel x rest hp).symm.trans ht)
      have hd : State.Inv { s with opSel := sel, operands := x, pending := rest } := hs.of_eq rfl rfl rfl
      exact hd.respondTo sel
    | header w0 =>
      obtain rfl := Host.Outcome.next.inj ((step_header s w0 rest hp).symm.trans ht)
      exact hr.presentHeader w0
    | byte b =>
      obtain rfl := Host.Outcome.next.inj ((step_byte s b rest hp).symm.trans ht)
      exact hr.presentByte b
    | frame f =>
      obtain rfl := Host.Outcome.next.inj ((step_frame s f rest hp).symm.trans ht)
      exact hr.presentFrame f

/-- Settles O12: reset shows the quiet port, which is legal and is what stands before the first answer. -/
theorem resetHasLegalAnswers : Obligations.ResetHasLegalAnswers where
  portLegal := rfl
  answersLegal := by simp
  portShowsLast := rfl

/-! ### The step and the pure function -/

/-- Settles O10: `step_request`, with the delivered answer written out. -/
theorem requestsAreAnsweredByThePureFunction : Obligations.RequestsAreAnsweredByThePureFunction :=
  step_request

/-- Settles O5: `fetch` takes the transaction off and drives a request's ports, and the step runs what it decodes to. -/
theorem stepRunsTheDecodedInstruction : Obligations.StepRunsTheDecodedInstruction := by
  intro s i rest
  refine ⟨?request, ?header, ?byte, ?frame, step_idle s⟩
  case request => exact fun sel x h hd => step_of_fetch_ok s _ _ i (fetch_request s sel x rest h) hd
  case header => exact fun w0 h hd => step_of_fetch_ok s _ _ i (fetch_header s w0 rest h) hd
  case byte => exact fun b h hd => step_of_fetch_ok s _ _ i (fetch_byte s b rest h) hd
  case frame => exact fun f h hd => step_of_fetch_ok s _ _ i (fetch_frame s f rest h) hd

/-- Settles O14, by the two cases of `step_cases`: idle, or the head of the list taken off and the record extended. -/
theorem stepKeepsParametersAndRecord : Obligations.StepKeepsParametersAndRecord := by
  intro s t ht
  obtain ⟨hp, hs⟩ | ⟨tr, rest, hp, sel, x, answers, -, hs⟩ := step_cases s
  · obtain rfl := Host.Outcome.next.inj (hs.symm.trans ht)
    exact ⟨rfl, List.prefix_refl _, by rw [hp, List.tail_nil]⟩
  · obtain rfl := Host.Outcome.next.inj (hs.symm.trans ht)
    exact ⟨rfl, List.prefix_append _ _, by rw [hp, List.tail_cons]⟩

/-! ### The frame of each format -/

/-- Settles O41: an operation delivers one answer. -/
theorem operationsChangeOnlyTheResponse : Obligations.OperationsChangeOnlyTheResponse := by
  intro i sel s t he ht
  obtain rfl := Host.Outcome.next.inj ((exec_of_encode_op i sel s he).symm.trans ht)
  exact ⟨rfl, rfl, rfl, rfl, _, rfl, rfl⟩

/-- Settles O42, from `presentHeader_eq`, which gives every field after a header word. -/
theorem headerRowsChangeOnlyTheHeaderWord : Obligations.HeaderRowsChangeOnlyTheHeaderWord := by
  intro i w0 s t he ht
  obtain rfl := Host.Outcome.next.inj ((exec_of_encode_header i w0 s he).symm.trans ht)
  rw [presentHeader_eq]
  exact ⟨rfl, rfl, rfl, rfl, rfl, rfl, rfl, rfl, rfl, rfl, _, _, _, rfl, rfl, rfl⟩

/-- Settles O43, from `presentByte_eq`, which gives every field after a byte. -/
theorem byteRowsChangeOnlyTheBytePorts : Obligations.ByteRowsChangeOnlyTheBytePorts := by
  intro i b s t he ht
  obtain rfl := Host.Outcome.next.inj ((exec_of_encode_byte i b s he).symm.trans ht)
  rw [presentByte_eq]
  exact ⟨rfl, rfl, rfl, rfl, rfl, rfl, rfl, _, _, _, _, rfl, rfl, rfl⟩

/-- Settles O44, from `presentFrame_eq`, which gives every field after a payload. -/
theorem frameRowsChangeOnlyTheNegotiationPort : Obligations.FrameRowsChangeOnlyTheNegotiationPort := by
  intro i f s t he ht
  obtain rfl := Host.Outcome.next.inj ((exec_of_encode_frame i f s he).symm.trans ht)
  rw [presentFrame_eq]
  exact ⟨rfl, rfl, rfl, rfl, rfl, rfl, rfl, _, _, _, _, rfl, rfl, rfl⟩

end Sys2Proof.Machine

namespace Sys2Proof.Machine

/-! ### What each operation reads

Each unit reads part of its port, and two contents that agree there get the same result (R47). -/

/-- R91 for nibble 7, which is the field 31..28. -/
theorem nib_7_congr {u w : Word} (h : bits u 31 28 = bits w 31 28) : nib u 7 = nib w 7 := h

/-- R91 for nibble 6, which is the field 27..24. -/
theorem nib_6_congr {u w : Word} (h : bits u 27 24 = bits w 27 24) : nib u 6 = nib w 6 := h

theorem umpMt_congr {u w : Packet} (h : nib u.w0 7 = nib w.w0 7) : umpMt u = umpMt w := by
  rw [umpMt_eq, umpMt_eq, h]

theorem umpGrp_congr (p : Params) {u w : Packet} (h : nib u.w0 6 = nib w.w0 6) : umpGrp p u = umpGrp p w := by
  rw [umpGrp_eq, umpGrp_eq, h]

theorem umpLen_congr {u w : Packet} (h : nib u.w0 7 = nib w.w0 7) : umpLen u = umpLen w := by
  rw [umpLen_eq, umpLen_eq, h]

theorem ciPtype_congr {f g : Frame} (h0 : f.n0 = g.n0) : ciPtype f = ciPtype g := by
  unfold ciPtype
  rw [frameByte_0, frameByte_0, h0]

theorem ciPver_congr {f g : Frame} (h1 : f.n1 = g.n1) (h0 : f.n0 = g.n0) : ciPver f = ciPver g := by
  unfold ciPver
  rw [frameByte_1, frameByte_1, h1, ciPtype_congr h0]

/-- `CI.VAL` reads byte 2 only in a build with `STRICT_EXT_RESERVED`, and then its bits 7..2 only (R136). -/
theorem ciVal_congr (p : Params) {f g : Frame} (h3 : f.n3 = g.n3) (h4 : f.n4 = g.n4)
    (h2 : p.strictExtReserved = true → bits f.n2 7 2 = bits g.n2 7 2) : ciVal p f = ciVal p g := by
  have hstrict : (p.strictExtReserved = true ∧ bits f.n2 7 2 ≠ 0#6) ↔
      (p.strictExtReserved = true ∧ bits g.n2 7 2 ≠ 0#6) :=
    and_congr_right fun hp => by rw [h2 hp]
  unfold ciVal
  refine if_congr hstrict rfl ?_
  rw [frameByte_3, frameByte_3, frameByte_4, frameByte_4, h3, h4]

/-- Bits 0 and 1 of a byte are the two bits of its field 1..0. -/
theorem getLsbD_bits_1_0 (b : Byte) :
    b.getLsbD 0 = (bits b 1 0).getLsbD 0 ∧ b.getLsbD 1 = (bits b 1 0).getLsbD 1 := by
  revert b
  decide

theorem ciExt_congr {f g : Frame} (h0 : f.n0 = g.n0) (h2 : bits f.n2 1 0 = bits g.n2 1 0) : ciExt f = ciExt g := by
  obtain ⟨hf0, hf1⟩ := getLsbD_bits_1_0 f.n2
  obtain ⟨hg0, hg1⟩ := getLsbD_bits_1_0 g.n2
  simp only [ciExt, ciPtype_congr h0, frameByte_2, hf0, hf1, hg0, hg1, h2]

/-- Settles O15, by the operation: equal numbers are equal fields of the port, and its operation reads
no more than those. -/
theorem responseDependsOnlyOnTheListedBits : Obligations.ResponseDependsOnlyOnTheListedBits := by
  intro p sel x y h
  cases hc : Hex.ofNibble sel <;>
    simp only [readBits, respond, hc, List.cons.injEq, and_true, BitVec.toNat_inj] at h ⊢
  case x0 | x1 | x5 | x6 | x7 | x8 => rw [h]
  case x2 => rw [umpMt_congr (nib_7_congr h)]
  case x3 => rw [umpGrp_congr p (nib_6_congr h)]
  case x4 => rw [umpLen_congr (nib_7_congr h)]
  case x9 => rw [ciPtype_congr h]
  case xA =>
    obtain ⟨h1, h0⟩ := h
    rw [ciPver_congr h1 h0]
  case xB =>
    cases hp : p.strictExtReserved with
    | true =>
      obtain ⟨h3, h4, h2⟩ : x.n.n3 = y.n.n3 ∧ x.n.n4 = y.n.n4 ∧ bits x.n.n2 7 2 = bits y.n.n2 7 2 := by
        simpa [hp, BitVec.toNat_inj] using h
      rw [ciVal_congr p h3 h4 fun _ => h2]
    | false =>
      obtain ⟨h3, h4⟩ : x.n.n3 = y.n.n3 ∧ x.n.n4 = y.n.n4 := by
        simpa [hp, BitVec.toNat_inj] using h
      rw [ciVal_congr p h3 h4 (by simp [hp])]
  case xC =>
    obtain ⟨h0, h2⟩ := h
    rw [ciExt_congr h0 h2]

/-! ### The answers of a transaction, and of a run -/

theorem core_run_zero (s : State) : Host.Core.run core 0 s = .next s := rfl

theorem core_run_succ {s t : State} (k : Nat) (h : step s = .next t) :
    Host.Core.run core (k + 1) s = Host.Core.run core k t := by
  have hcore : core.step s = .next t := h
  simp only [Host.Core.run, hcore]

/-- The answers the block gives to a transaction. They depend on the parameters and on nothing else of the state. -/
def Transaction.answerList (p : Params) : Transaction → List Answer
  | .request sel x => [{ sel := sel, response := respond p sel x }]
  | .header w0 => headerAnswers p (Operands.undriven.withHeader w0).w
  | .byte b => byteAnswers p b
  | .frame f => frameAnswers p f

/-- The answers to a packet port depend on its header word only (R21). -/
theorem headerAnswers_congr (p : Params) {u w : Packet} (h : u.w0 = w.w0) : headerAnswers p u = headerAnswers p w := by
  have h6 : nib u.w0 6 = nib w.w0 6 := by rw [h]
  have h7 : nib u.w0 7 = nib w.w0 7 := by rw [h]
  simp only [headerAnswers, umpMt_congr h7, umpGrp_congr p h6, umpLen_congr h7]

/-- A step takes the next transaction off the list and records its answers. -/
theorem step_records_answerList (s : State) (tr : Transaction) (rest : List Transaction)
    (h : s.pending = tr :: rest) :
    ∃ t, step s = .next t ∧ t.params = s.params ∧ t.pending = rest ∧ t.log = s.log ++ tr.answerList s.params := by
  cases tr with
  | request sel x => exact ⟨_, step_request s sel x rest h, rfl, rfl, rfl⟩
  | header w0 =>
    refine ⟨_, step_header s w0 rest h, ?_⟩
    rw [presentHeader_eq]
    exact ⟨rfl, rfl, congrArg (s.log ++ ·) (headerAnswers_congr s.params rfl)⟩
  | byte b =>
    refine ⟨_, step_byte s b rest h, ?_⟩
    rw [presentByte_eq]
    exact ⟨rfl, rfl, rfl⟩
  | frame f =>
    refine ⟨_, step_frame s f rest h, ?_⟩
    rw [presentFrame_eq]
    exact ⟨rfl, rfl, rfl⟩

/-- A run over the whole pending list serves it to its end and records the answers of each transaction in turn. -/
theorem run_pending_records_answerList (l : List Transaction) (s : State) (h : s.pending = l) :
    ∃ t, Host.Core.run core l.length s = .next t ∧ t.params = s.params ∧ t.pending = [] ∧
      t.log = s.log ++ l.flatMap (Transaction.answerList s.params) := by
  induction l generalizing s with
  | nil => exact ⟨s, core_run_zero s, rfl, h, by simp⟩
  | cons tr rest ih =>
    obtain ⟨m, hstep, hmparams, hmpending, hmlog⟩ := step_records_answerList s tr rest h
    obtain ⟨t, hrun, htparams, htpending, htlog⟩ := ih m hmpending
    refine ⟨t, (core_run_succ rest.length hstep).trans hrun, htparams.trans hmparams, htpending, ?_⟩
    rw [htlog, hmlog, hmparams, List.flatMap_cons, List.append_assoc]

/-- Settles O16: each transaction's answers depend on the parameters alone, so they come in the order of the list. -/
theorem reorderedTransactionsGetTheSameAnswers : Obligations.ReorderedTransactionsGetTheSameAnswers := by
  intro s l hl
  obtain ⟨t, ht, -, -, htlog⟩ := run_pending_records_answerList s.pending s rfl
  obtain ⟨u, hu, -, -, hulog⟩ := run_pending_records_answerList l { s with pending := l } rfl
  refine ⟨t, u, ht, hu, ?_⟩
  rw [htlog, hulog]
  exact (hl.flatMap_right _).append_left s.log

/-- Settles O17: both steps answer by `respond` of the same parameters, select and ports. -/
theorem repeatedRequestsGetTheSameResponse : Obligations.RepeatedRequestsGetTheSameResponse := by
  intro s sel x rest h
  have hfirst := step_request s sel x _ h
  have hsecond := step_request _ sel x rest
    (rfl : (State.respondTo { s with opSel := sel, operands := x, pending := .request sel x :: rest } sel).pending = _)
  refine ⟨_, _, ⟨sel, respond s.params sel x⟩, (core_run_succ 0 hfirst).trans (core_run_zero _),
    ((core_run_succ 1 hfirst).trans (core_run_succ 0 hsecond)).trans (core_run_zero _), rfl, ?_, rfl⟩
  exact List.append_assoc s.log _ _

end Sys2Proof.Machine

namespace Sys2Proof.Machine

/-! ### Decoding an encoding, format by format

The code of an instruction names its format, and the decoder of that format reads the instruction back. -/

/-- R70: each operation code is one arm of the decoder's table. -/
theorem decodeOp_of_encode (i : Instr) (sel : Nibble) (h : encode i = .op sel) : decodeOp sel = i := by
  cases i <;> cases h <;> rfl

/-- The top nibble names the row, and the two fields below it are its operands. -/
theorem decodeHeader_of_encode (i : Instr) (w0 : Word) (h : encode i = .header w0) : decodeHeader w0 = i := by
  cases i <;> cases h
  all_goals
    rw [decodeHeader, nib_headerWord_7, nib_headerWord_6, bits_headerWord_rest]
    rfl

theorem decodeByte_dataByteOf : ∀ payload : BitVec 7, decodeByte (dataByteOf payload) = .m1Data payload := by decide

/-- R64: with high nibble 0xF, the low nibbles with bit 3 set are the real-time ones. -/
theorem decodeByte_realTime :
    ∀ low : Nibble, realTimeLowOk low = true → decodeByte (statusByteOf 0xF#4 low) = .m1SystemRealTime low := by decide

/-- Bit 7 tells a data byte, the high nibble a channel status; a system status is told by its low nibble, which for a
real-time status must be in R64's range. -/
theorem decodeByte_of_encode (i : Instr) (b : Byte) (hwf : i.wf = true) (h : encode i = .byte b) : decodeByte b = i := by
  cases i <;> cases h
  case m1Data payload => exact decodeByte_dataByteOf payload
  case m1SystemRealTime low => exact decodeByte_realTime low hwf
  all_goals
    rw [decodeByte, nib_statusByteOf_1, nib_statusByteOf_0]
    rfl

/-- R65: the encoder writes an accepted frame, whose extension byte no check reads. -/
theorem decodeFrame_of_encode (i : Instr) (f : Frame) (h : encode i = .frame f) : decodeFrame f = .ok i := by
  cases i <;> cases h <;> rfl

/-- Settles O1, by the format of the instruction's code. -/
theorem decodeOfEncodeIsTheInstruction : Obligations.DecodeOfEncodeIsTheInstruction := by
  intro i hwf
  cases hc : encode i with
  | op sel => exact congrArg Except.ok (decodeOp_of_encode i sel hc)
  | header w0 => exact congrArg Except.ok (decodeHeader_of_encode i w0 hc)
  | byte b => exact congrArg Except.ok (decodeByte_of_encode i b hwf hc)
  | frame f => exact decodeFrame_of_encode i f hc

/-! ### What is decoded is well formed -/

theorem wf_decodeOp : ∀ sel : Nibble, (decodeOp sel).wf = true := by decide

/-- Every header row is well formed with any fields. -/
theorem wf_decodeHeader (w0 : Word) : (decodeHeader w0).wf = true := by
  unfold decodeHeader
  cases Hex.ofNibble (nib w0 7) <;> rfl

theorem wf_decodeByte : ∀ b : Byte, (decodeByte b).wf = true := by decide

theorem wf_of_decodeFrame (f : Frame) (i : Instr) (h : decodeFrame f = .ok i) : i.wf = true := by
  unfold decodeFrame at h
  split_ifs at h <;> cases h <;> rfl

/-- Settles O2, by the format of the value. -/
theorem encodeOfDecodeIsTheWord : Obligations.EncodeOfDecodeIsTheWord := by
  intro c i h
  cases c with
  | op sel =>
    obtain rfl := Except.ok.inj h
    exact ⟨encode_decodeOp sel, wf_decodeOp sel⟩
  | header w0 =>
    obtain rfl := Except.ok.inj h
    exact ⟨encode_decodeHeader w0, wf_decodeHeader w0⟩
  | byte b =>
    obtain rfl := Except.ok.inj h
    exact ⟨encode_decodeByte b, wf_decodeByte b⟩
  | frame f => exact ⟨encode_of_decodeFrame f i h, wf_of_decodeFrame f i h⟩

/-! ### A word of the table, placed in front of the pending list -/

theorem decodeTableWord_eq_some_iff (nbits w : Nat) (i : Instr) :
    decodeTableWord nbits w = some i ↔ ∃ c, codeOfTableWord nbits w = some c ∧ decode c = .ok i := by
  unfold decodeTableWord
  cases codeOfTableWord nbits w with
  | none => simp
  | some c => cases hd : decode c <;> simp [hd]

theorem withFetchWord_of_code (s : State) (nbits w : Nat) (c : Code) (h : codeOfTableWord nbits w = some c) :
    s.withFetchWord nbits w = { s with pending := s.transactionOf c :: s.pending } := by
  simp only [State.withFetchWord, h]

/-- A code presented on the ports as they stand is what the next step runs. Of the state only the operation select may
differ by then, and an operation sets it anyway. -/
theorem step_transactionOf (s : State) (c : Code) (i : Instr) (h : decode c = .ok i) :
    step { s with pending := s.transactionOf c :: s.pending } = exec i s := by
  cases c with
  | op sel =>
    have hc : encode i = .op sel := (encodeOfDecodeIsTheWord _ _ h).1
    rw [step_request _ sel s.operands s.pending rfl, exec_of_encode_op i sel s hc]
    rfl
  | header w0 => exact step_of_fetch_ok _ s _ i (fetch_header _ w0 s.pending rfl) h
  | byte b => exact step_of_fetch_ok _ s _ i (fetch_byte _ b s.pending rfl) h
  | frame f => exact step_of_fetch_ok _ s _ i (fetch_frame _ f s.pending rfl) h

/-- Settles O6: the number stands for a code that decodes, and that code is put in front of the pending list. -/
theorem placedWordIsRunNext : Obligations.PlacedWordIsRunNext := by
  intro s nbits w i h
  obtain ⟨c, hc, hd⟩ := (decodeTableWord_eq_some_iff nbits w i).mp h
  rw [withFetchWord_of_code s nbits w c hc]
  exact step_transactionOf s c i hd

/-! ### The rows of format UMPW0 -/

/-- The header word as a number, from its three fields (R60). -/
theorem headerWord_eq_ofNat (t : MessageType) (group : Nibble) (rest : BitVec 24) :
    headerWord t group rest = BitVec.ofNat 32 (t.code.toNat * 2 ^ 28 + group.toNat * 2 ^ 24 + rest.toNat) := by
  rw [← headerWord_toNat, BitVec.ofNat_toNat, BitVec.setWidth_eq]

/-- Presenting a word of the row of `t` gets the tag `t`, the group and the length of `t`. -/
theorem presentHeader_headerWord (s : State) (t : MessageType) (group : Nibble) (rest : BitVec 24) :
    presentHeader (headerWord t group rest) s = afterHeaderRow s t.code.toNat t (packetWords t) group rest := by
  have hanswers : headerAnswers s.params (s.operands.withHeader (headerWord t group rest)).w =
      [⟨0x2#4, .ok (.messageType t)⟩, ⟨0x3#4, .ok (.group group.toNat)⟩, ⟨0x4#4, .ok (.words (packetWords t))⟩] := by
    simp [headerAnswers, umpMt_eq, umpGrp_eq, umpLen_eq, nib_headerWord_7, nib_headerWord_6, MessageType.ofCode_code]
  rw [presentHeader_eq, hanswers, headerWord_eq_ofNat]
  rfl

/-- Settles O36: each row presents the word of its tag. -/
theorem headerRowsAnswerTheirTable : Obligations.HeaderRowsAnswerTheirTable := by
  intro s g r
  have row (t : MessageType) : (.next (presentHeader (headerWord t g r) s) : Host.Outcome State Fault Refusal) =
      .next (afterHeaderRow s t.code.toNat t (packetWords t) g r) :=
    congrArg Host.Outcome.next (presentHeader_headerWord s t g r)
  exact ⟨row .utility, row .systemRealTimeAndCommon, row .midi1ChannelVoice, row .dataInclSystemExclusive,
    row .midi2ChannelVoice, row .data, row .reserved6, row .reserved7, row .reserved8, row .reserved9, row .reservedA,
    row .reservedB, row .reservedC, row .reservedD, row .reservedE, row .reservedF⟩

/-! ### Reading a response back from its port

The packing of R75 is undone by tables of the host's: from the operation select and the port alone they recover the
typed response of any legal answer. -/

/-- R151 read backwards; the codes no error has (0 and 10 to 14) are read like 15. -/
def ErrorName.ofCode (c : BitVec 4) : ErrorName :=
  match Hex.ofNibble c with
  | .x1 => .malformedHeader
  | .x2 => .invalidGroup
  | .x3 => .invalidStatusByte
  | .x4 => .invalidDataByte
  | .x5 => .unrecognizedProtocolType
  | .x6 => .unrecognizedProtocolVersion
  | .x7 => .reservedByteViolation
  | .x8 => .extensionsNotApplicable
  | .x9 => .unresolvedDataByteCount
  | .x0 | .xA | .xB | .xC | .xD | .xE | .xF => .illegalOp

theorem ErrorName.ofCode_code (e : ErrorName) : ErrorName.ofCode e.code = e := by
  cases e <;> rfl

/-- R75, rows of `M1.CLASS`, read backwards: the low nibble tells the ten messages apart. -/
def Message.unpack (b : Byte) : Message :=
  match Hex.ofNibble (nib b 0) with
  | .x8 => .channel .noteOff
  | .x9 => .channel .noteOn
  | .xA => .channel .polyphonicKeyPressureOrAftertouch
  | .xB => .channel .controlChangeOrChannelMode
  | .xC => .channel .programChange
  | .xD => .channel .channelPressureOrAftertouch
  | .xE => .channel .pitchBendChange
  | .x0 => .system .common
  | .x1 => .system .realTime
  | .x2 | .x3 | .x4 | .x5 | .x6 | .x7 | .xF => .system .exclusive

theorem Message.unpack_pack (m : Message) : Message.unpack m.pack = m := by
  cases m with
  | channel t => cases t <;> rfl
  | system t => cases t <;> rfl

/-- R75, rows of `M1.NDB`, read backwards. -/
def DataBytes.unpack (b : Byte) : DataBytes := if b = 0x80#8 then .untilEox else .fixed b.toNat

/-- The code 0x80 of `UntilEox` is no count that `M1.NDB` answers (R113). -/
theorem DataBytes.unpack_pack_fixed (n : Nat) (h : n ≤ 2) : DataBytes.unpack (DataBytes.fixed n).pack = .fixed n := by
  interval_cases n <;> rfl

/-- R75 read backwards, by the operation. A reserved code answers no value; its bits are read as the unit. -/
def Value.unpack (sel : Nibble) (b : Byte) : Value :=
  match Hex.ofNibble sel with
  | .x0 | .x2 => .messageType (MessageType.ofCode (nib b 0))
  | .x1 | .x3 => .group b.toNat
  | .x4 => .words b.toNat
  | .x5 => .statusByte b
  | .x6 => .message (Message.unpack b)
  | .x7 => .dataBytes (DataBytes.unpack b)
  | .x8 => .dataByte b
  | .x9 => .protocolType (if b = 0x01#8 then .midi1 else .midi2)
  | .xA => .protocolVersion (if b = 0x01#8 then .midi1 else .midi2v1)
  | .xB | .xD | .xE | .xF => .unit
  | .xC => .extensions { jitterReduction := b.getLsbD 0, largePackets := b.getLsbD 1 }

theorem nib_pack_messageType (t : MessageType) : nib (Value.messageType t).pack 0 = t.code := by
  cases t <;> rfl

/-- The numbers that R75 packs as they are fit in the 8 bits. -/
theorem toNat_ofNat_8 (n : Nat) (h : n ≤ 16) : (BitVec.ofNat 8 n).toNat = n := by
  rw [BitVec.toNat_ofNat, Nat.mod_eq_of_lt (by omega)]

theorem groupBound_le_sixteen (p : Params) : groupBound p ≤ 16 := by
  unfold groupBound
  cases p.groupMax <;> simp

/-- R75 loses nothing: the value of a legal answer is read back from its 8 bits. By operation and type of value; legality
leaves one type to each operation. -/
theorem Value.unpack_pack (p : Params) (sel : Nibble) (v : Value) (h : legalValue p sel v = true) :
    Value.unpack sel v.pack = v := by
  cases hc : Hex.ofNibble sel <;> cases v <;>
    simp only [legalValue, hc, decide_eq_true_eq, Bool.false_eq_true] at h <;> simp only [Value.unpack, hc]
  case x0.messageType t | x2.messageType t => rw [nib_pack_messageType, MessageType.ofCode_code]
  case x1.group g => exact congrArg Value.group (toNat_ofNat_8 g (h.trans (groupBound_le_sixteen p)))
  case x3.group g => exact congrArg Value.group (toNat_ofNat_8 g (by omega))
  case x4.words n => exact congrArg Value.words (toNat_ofNat_8 n (by omega))
  case x6.message m => exact congrArg Value.message (Message.unpack_pack m)
  case x7.dataBytes d =>
    cases d with
    | fixed n => exact congrArg Value.dataBytes (DataBytes.unpack_pack_fixed n (of_decide_eq_true h))
    | untilEox => rfl
  case x9.protocolType t => cases t <;> rfl
  case xA.protocolVersion v => cases v <;> rfl
  case xC.extensions e =>
    obtain ⟨jitter, large⟩ := e
    cases jitter <;> cases large <;> rfl
  case x5.statusByte | x8.dataByte => rfl

/-- What the host reads off the response port after the operation `sel` (R30). -/
def ResponsePort.read (sel : Nibble) (r : ResponsePort) : Response :=
  if r.ok then .ok (Value.unpack sel r.res) else .err (ErrorName.ofCode r.code) r.info

theorem ResponsePort.read_port (p : Params) (a : Answer) (h : a.legal p = true) :
    ResponsePort.read a.sel a.response.port = a.response := by
  obtain ⟨sel, v | ⟨e, i⟩⟩ := a
  · exact congrArg Result.ok (Value.unpack_pack p sel v h)
  · exact congrArg (Result.err · i) (ErrorName.ofCode_code e)

/-- Settles O46: each answer is what the host reads off its port, and the two ports are one. -/
theorem packingLosesNothing : Obligations.PackingLosesNothing := by
  intro p q a b ha hb hsel hport
  calc a.response
      _ = ResponsePort.read a.sel a.response.port := (ResponsePort.read_port p a ha).symm
      _ = ResponsePort.read b.sel b.response.port := by rw [hsel, hport]
      _ = b.response := ResponsePort.read_port q b hb

/-! ### The samples, the reserved codes and the packing row by row -/

/-- Settles O3, by running the decoder on each of the ten closed values. -/
theorem sampleWordsDecode : Obligations.SampleWordsDecode := by
  unfold Obligations.SampleWordsDecode
  decide

/-- R71, R162: delivering `Err(IllegalOp, 0)` touches the select, the response port and the record, and no operand. -/
theorem answer_illegalOp (s : State) (sel : Nibble) :
    s.answer sel illegalOp =
      { s with
        opSel := sel, resp := { ok := false, code := 15#4, info := 0#3, res := 0#8 }
        log := s.log ++ [{ sel := sel, response := .err .illegalOp 0#3 }] } := rfl

/-- Settles O35: each reserved code delivers `illegalOp`. -/
theorem reservedCodesAnswerIllegalOp : Obligations.ReservedCodesAnswerIllegalOp := fun s =>
  ⟨congrArg Host.Outcome.next (answer_illegalOp s 0xD#4), congrArg Host.Outcome.next (answer_illegalOp s 0xE#4),
    congrArg Host.Outcome.next (answer_illegalOp s 0xF#4)⟩

theorem port_ok_of_pack {v : Value} {n : Nat} (h : v.pack = BitVec.ofNat 8 n) : Result.port (.ok v) = okPort n :=
  congrArg (ResponsePort.mk true 0#4 0#3) h

theorem pack_of_mem_packingTable : ∀ row ∈ packingTable, row.1.pack = BitVec.ofNat 8 row.2 := by decide

/-- Settles O54: the named values by the table, the numbers and bytes because they are packed as they are. -/
theorem valuesDriveThePort : Obligations.ValuesDriveThePort := by
  refine ⟨fun v c hmem => port_ok_of_pack (pack_of_mem_packingTable (v, c) hmem), fun g _ => port_ok_of_pack rfl,
    fun n _ _ => port_ok_of_pack rfl, fun n _ => port_ok_of_pack rfl, fun b => ?_⟩
  have hb : b = BitVec.ofNat 8 b.toNat := by rw [BitVec.ofNat_toNat, BitVec.setWidth_eq]
  exact ⟨port_ok_of_pack hb, port_ok_of_pack hb⟩

end Sys2Proof.Machine

namespace Sys2Proof.Machine

/-! ### The raw-value port -/

/-- A row of R70, from R20's function: the operation of code `sel` delivers the response that function gives. -/
theorem exec_of_respond {i : Instr} {sel : Nibble} {s : State} {r : Response} (hi : encode i = .op sel)
    (hr : respond s.params sel s.operands = r) : exec i s = .next (s.answer sel r) := by
  rw [exec_of_encode_op i sel s hi, hr]

theorem mtChk_of_gt (v : RawValue) (h : v.toNat > 15) : mtChk v = .err .malformedHeader 0#3 := if_pos h

/-- `MT.CHK` answers the tag whose code (R61) the value is. -/
theorem mtChk_of_code (v : RawValue) (t : MessageType) (h : v.toNat = t.code.toNat) : mtChk v = .ok t := by
  have ht := t.code.isLt
  have hcode : bits v 3 0 = t.code := BitVec.eq_of_toNat_eq (by rw [bits_toNat]; omega)
  rw [mtChk_of_le v (by omega), hcode, MessageType.ofCode_code]

/-- The codes of the restated table of R61 are those of the tags. -/
theorem code_of_mem_headerTable : ∀ row ∈ headerTable, row.1 = row.2.1.code.toNat := by decide

/-- Settles O19, by the bound 15: above it the error, else the tag of the code that the table lists. -/
theorem messageTypeCheck : Obligations.MessageTypeCheck := by
  refine fun s => ⟨fun h => exec_of_respond rfl ?gt, fun c t n hmem hv => exec_of_respond rfl ?row⟩
  case gt => exact congrArg (Result.map Value.messageType) (mtChk_of_gt _ h)
  case row =>
    have hcode : s.operands.v.toNat = t.code.toNat := hv.trans (code_of_mem_headerTable (c, t, n) hmem)
    exact congrArg (Result.map Value.messageType) (mtChk_of_code _ t hcode)

theorem groupBound_of_max15 {p : Params} (h : p.groupMax = .max15) : groupBound p = 15 := by
  rw [groupBound, h]

theorem groupBound_of_max16 {p : Params} (h : p.groupMax = .max16) : groupBound p = 16 := by
  rw [groupBound, h]

theorem grpChk_of_gt (p : Params) (v : RawValue) (h : v.toNat > groupBound p) : grpChk p v = .err .invalidGroup 0#3 :=
  if_pos h

/-- Settles O20: 15 is within both bounds and 17 beyond both; 16 is compared with the bound of the build. -/
theorem groupCheck : Obligations.GroupCheck := by
  intro s
  have accept (h : s.operands.v.toNat ≤ groupBound s.params) :
      exec .grpChk s = .next (s.answer 1#4 (.ok (.group s.operands.v.toNat))) :=
    exec_of_respond rfl (congrArg (Result.map Value.group) (grpChk_of_le _ _ h))
  have reject (h : s.operands.v.toNat > groupBound s.params) :
      exec .grpChk s = .next (s.answer 1#4 (.err .invalidGroup 0#3)) :=
    exec_of_respond rfl (congrArg (Result.map Value.group) (grpChk_of_gt _ _ h))
  refine ⟨fun h => accept (h.trans (fifteen_le_groupBound _)), fun hv hg => reject ?_, fun hv hg => ?_,
    fun h => reject (Nat.lt_of_le_of_lt (groupBound_le_sixteen _) h)⟩
  · rw [groupBound_of_max15 hg]
    omega
  · rw [← hv]
    refine accept ?_
    rw [groupBound_of_max16 hg]
    omega

theorem toNat_zext8_nibble (k : Nibble) : (zext8 k).toNat = k.toNat :=
  BitVec.toNat_setWidth_of_le (by decide)

/-- Settles O21: a nibble is at most 15, the bound of `MT.CHK` and the least bound of `GRP.CHK`. -/
theorem nibblesAlwaysValidate : Obligations.NibblesAlwaysValidate := by
  intro p k
  have hk : (zext8 k).toNat ≤ 15 := by
    rw [toNat_zext8_nibble]
    exact Nat.le_of_lt_succ k.isLt
  refine ⟨⟨_, mtChk_of_le _ hk⟩, ?_⟩
  rw [grpChk_of_le p _ (hk.trans (fifteen_le_groupBound p)), toNat_zext8_nibble]

/-- Settles O47: nibble `k` is the field of width 4 at `4k`, so both of its forms are the same number. -/
theorem fieldExtraction : Obligations.FieldExtraction := by
  refine ⟨fun n v hi lo _ _ => bits_toNat v hi lo, fun n v k _ _ => ?_⟩
  have hwidth : 4 * k + 3 - 4 * k + 1 = 4 := by omega
  rw [nib_toNat, bits_toNat, hwidth]
  rfl

/-! ### Unit U1 by ranges of the byte (R118) -/

/-- The lines of R118: a data byte, a channel message, 0xF0, System Common, real time. -/
theorem byte_ranges (b : Byte) :
    b.toNat < 0x80 ∨ (∃ t : ChannelMessage, b.toNat / 16 = t.nibble.toNat) ∨ b.toNat = 0xF0 ∨
    (0xF1 ≤ b.toNat ∧ b.toNat ≤ 0xF7) ∨ 0xF8 ≤ b.toNat := by
  have hchannel : 8 ≤ b.toNat / 16 → b.toNat / 16 ≤ 14 → ∃ t : ChannelMessage, b.toNat / 16 = t.nibble.toNat := by
    generalize b.toNat / 16 = h
    intro hlo hhi
    interval_cases h
    exacts [⟨.noteOff, rfl⟩, ⟨.noteOn, rfl⟩, ⟨.polyphonicKeyPressureOrAftertouch, rfl⟩,
      ⟨.controlChangeOrChannelMode, rfl⟩, ⟨.programChange, rfl⟩, ⟨.channelPressureOrAftertouch, rfl⟩,
      ⟨.pitchBendChange, rfl⟩]
  by_cases h : 0x80 ≤ b.toNat ∧ b.toNat < 0xF0
  · exact .inr (.inl (hchannel (by omega) (by omega)))
  · omega

theorem m1Sval_of_lt {sb : Byte} (h : sb.toNat < 0x80) : m1Sval sb = .err .invalidStatusByte 0#3 :=
  if_neg fun hb => by have := (getLsbD_7_iff sb).mp hb; omega

theorem m1Sval_of_ge {sb : Byte} (h : 0x80 ≤ sb.toNat) : m1Sval sb = .ok sb := if_pos ((getLsbD_7_iff sb).mpr h)

theorem m1Dval_of_lt {db : Byte} (h : db.toNat < 0x80) : m1Dval db = .ok db :=
  if_neg fun hb => by have := (getLsbD_7_iff db).mp hb; omega

theorem m1Dval_of_ge {db : Byte} (h : 0x80 ≤ db.toNat) : m1Dval db = .err .invalidDataByte 0#3 :=
  if_pos ((getLsbD_7_iff db).mpr h)

theorem ChannelMessage.nibble_range (t : ChannelMessage) : 8 ≤ t.nibble.toNat ∧ t.nibble.toNat ≤ 14 := by
  cases t <;> decide

theorem m1Class_of_lt {sb : Byte} (h : sb.toNat < 0x80) : m1Class sb = .err .invalidStatusByte 0#3 := by
  rw [m1Class, m1Sval_of_lt h, Result.bind_err]

theorem m1Class_channel {sb : Byte} (t : ChannelMessage) (h : sb.toNat / 16 = t.nibble.toNat) :
    m1Class sb = .ok (.channel t) := by
  have ht := t.nibble_range
  have hhigh : nib sb 1 = t.nibble := BitVec.eq_of_toNat_eq (by rw [nib_toNat]; omega)
  rw [m1Class, m1Sval_of_ge (by omega), Result.bind_ok, hhigh]
  cases t <;> rfl

theorem m1Class_exclusive {sb : Byte} (h : sb.toNat = 0xF0) : m1Class sb = .ok (.system .exclusive) := by
  obtain rfl : sb = 0xF0#8 := BitVec.eq_of_toNat_eq h
  rfl

theorem m1Class_common {sb : Byte} (hlo : 0xF1 ≤ sb.toNat) (hhi : sb.toNat ≤ 0xF7) :
    m1Class sb = .ok (.system .common) := by
  revert sb
  decide

theorem m1Class_realTime {sb : Byte} (h : 0xF8 ≤ sb.toNat) : m1Class sb = .ok (.system .realTime) := by
  revert sb
  decide

section
variable (p : Params) {sb : Byte}

theorem m1Ndb_of_lt (h : sb.toNat < 0x80) : m1Ndb p sb = .err .invalidStatusByte 0#3 := by
  rw [m1Ndb, m1Class_of_lt h, Result.bind_err]

theorem m1Ndb_channel (t : ChannelMessage) (h : sb.toNat / 16 = t.nibble.toNat) : m1Ndb p sb = .ok (.fixed t.count) := by
  rw [m1Ndb, m1Class_channel t h, Result.bind_ok]

theorem m1Ndb_exclusive (h : sb.toNat = 0xF0) : m1Ndb p sb = .ok .untilEox := by
  rw [m1Ndb, m1Class_exclusive h, Result.bind_ok]

theorem m1Ndb_common_unresolved (hlo : 0xF1 ≤ sb.toNat) (hhi : sb.toNat ≤ 0xF7) (hr : p.sysCommonResolve = false) :
    m1Ndb p sb = .err .unresolvedDataByteCount 0#3 := by
  rw [m1Ndb, m1Class_common hlo hhi, Result.bind_ok, hr]
  rfl

theorem m1Ndb_common_resolved (hlo : 0xF1 ≤ sb.toNat) (hhi : sb.toNat ≤ 0xF7) (hr : p.sysCommonResolve = true) :
    m1Ndb p sb = sysCommon sb := by
  rw [m1Ndb, m1Class_common hlo hhi, Result.bind_ok, hr]
  rfl

theorem m1Ndb_realTime (h : 0xF8 ≤ sb.toNat) : m1Ndb p sb = .ok (.fixed 0) := by
  rw [m1Ndb, m1Class_realTime h, Result.bind_ok]

end

/-! ### Unit U2 in numbers of the payload bytes -/

theorem ciPtype_eq_toNat (f : Frame) :
    ciPtype f =
      if f.n0.toNat = 1 then .ok .midi1 else if f.n0.toNat = 2 then .ok .midi2 else .err .unrecognizedProtocolType 0#3 := by
  simp only [ciPtype, frameByte_0, BitVec.toNat_eq]
  rfl

theorem ciPver_eq_toNat (f : Frame) :
    ciPver f =
      if f.n1.toNat ≠ 0 then .err .unrecognizedProtocolVersion 0#3
      else if f.n0.toNat = 1 then .ok .midi1
      else if f.n0.toNat = 2 then .ok .midi2v1
      else .err .unrecognizedProtocolType 0#3 := by
  have hversion : f.n1 ≠ 0x00#8 ↔ f.n1.toNat ≠ 0 := not_congr BitVec.toNat_eq
  rw [ciPver, ciPtype_eq_toNat, frameByte_1, if_congr hversion rfl rfl]
  split_ifs <;> rfl

theorem bits_7_2_eq_zero_iff (b : Byte) : bits b 7 2 = 0#6 ↔ b.toNat / 4 = 0 := by
  revert b
  decide

theorem ciVal_eq_toNat (p : Params) (f : Frame) :
    ciVal p f =
      if p.strictExtReserved = true ∧ f.n2.toNat / 4 ≠ 0 then .err .reservedByteViolation 2#3
      else if f.n3.toNat ≠ 0 then .err .reservedByteViolation 3#3
      else if f.n4.toNat ≠ 0 then .err .reservedByteViolation 4#3
      else .ok () := by
  simp only [ciVal, frameByte_2, frameByte_3, frameByte_4, ne_eq, bits_7_2_eq_zero_iff]
  simp only [BitVec.toNat_eq]
  rfl

theorem ciExt_eq_toNat (f : Frame) :
    ciExt f =
      if f.n0.toNat = 1 then .ok { jitterReduction := f.n2.getLsbD 0, largePackets := f.n2.getLsbD 1 }
      else if f.n0.toNat = 2 then .err .extensionsNotApplicable 0#3
      else .err .unrecognizedProtocolType 0#3 := by
  rw [ciExt, ciPtype_eq_toNat]
  split_ifs <;> rfl

/-! ### The port after each operation -/

theorem portAfterExec_decodeOp (sel : Nibble) (s : State) :
    portAfterExec (decodeOp sel) s = some (respond s.params sel s.operands).port := by
  simp only [portAfterExec, exec_of_encode_op _ _ s (encode_decodeOp sel), State.answer_resp]

theorem pack_messageType_ofCode (c : Nibble) :
    (Value.messageType (MessageType.ofCode c)).pack = BitVec.ofNat 8 c.toNat := by
  rw [Value.pack, MessageType.code_ofCode]
  exact BitVec.eq_of_toNat_eq ((toNat_zext8_nibble c).trans (toNat_ofNat_8 _ c.isLt.le).symm)

theorem mtChk_port (v : RawValue) : ((mtChk v).map Value.messageType).port = mtChkPort v.toNat := by
  by_cases h : v.toNat ≤ 15
  · have hlow : (bits v 3 0).toNat = v.toNat := by rw [bits_toNat]; omega
    rw [mtChk_of_le v h, mtChkPort, if_pos h, ← hlow]
    exact port_ok_of_pack (pack_messageType_ofCode _)
  · rw [mtChk_of_gt v (by omega), mtChkPort, if_neg h]
    rfl

theorem le_groupBound_iff (p : Params) (v : Nat) :
    v ≤ groupBound p ↔ v ≤ 15 ∨ v = 16 ∧ p.groupMax = .max16 := by
  cases hg : p.groupMax
  · rw [groupBound_of_max15 hg]
    simp
  · rw [groupBound_of_max16 hg]
    simp
    omega

theorem grpChk_port (p : Params) (v : RawValue) :
    ((grpChk p v).map Value.group).port = grpChkPort p.groupMax v.toNat := by
  rw [grpChkPort, ← if_congr (le_groupBound_iff p v.toNat) rfl rfl]
  split
  · next h => rw [grpChk_of_le p v h]; rfl
  · next h => rw [grpChk_of_gt p v (by omega)]; rfl

theorem nib_7_toNat (w0 : Word) : (nib w0 7).toNat = w0.toNat / 2 ^ 28 := by
  have hw := w0.isLt
  rw [nib_toNat]
  omega

theorem umpMt_port (w : Packet) : ((umpMt w).map Value.messageType).port = okPort (w.w0.toNat / 2 ^ 28) := by
  rw [umpMt_eq, ← nib_7_toNat]
  exact port_ok_of_pack (pack_messageType_ofCode _)

theorem umpGrp_port (p : Params) (w : Packet) :
    ((umpGrp p w).map Value.group).port = okPort (w.w0.toNat / 2 ^ 24 % 16) := by
  rw [umpGrp_eq, nib_toNat]
  rfl

/-- R104 as a table of numbers. -/
theorem okPort_packetWords_ofCode : ∀ c : Nibble, okPort (packetWords (MessageType.ofCode c)) = umpLenPort c.toNat := by
  decide

theorem umpLen_port (w : Packet) : ((umpLen w).map Value.words).port = umpLenPort (w.w0.toNat / 2 ^ 28) := by
  rw [umpLen_eq, ← nib_7_toNat, ← okPort_packetWords_ofCode]
  rfl

theorem byte_eq_ofNat_toNat (b : Byte) : b = BitVec.ofNat 8 b.toNat := by
  rw [BitVec.ofNat_toNat, BitVec.setWidth_eq]

theorem m1Sval_port (sb : Byte) : ((m1Sval sb).map Value.statusByte).port = m1SvalPort sb.toNat := by
  unfold m1SvalPort
  split
  · next h => rw [m1Sval_of_ge h]; exact port_ok_of_pack (byte_eq_ofNat_toNat sb)
  · next h => rw [m1Sval_of_lt (by omega)]; rfl

theorem m1Dval_port (db : Byte) : ((m1Dval db).map Value.dataByte).port = m1DvalPort db.toNat := by
  unfold m1DvalPort
  split
  · next h => rw [m1Dval_of_lt h]; exact port_ok_of_pack (byte_eq_ofNat_toNat db)
  · next h => rw [m1Dval_of_ge (by omega)]; rfl

/-- R75: a channel message is packed as its high nibble. -/
theorem pack_channel (t : ChannelMessage) : (Value.message (.channel t)).pack = BitVec.ofNat 8 t.nibble.toNat := by
  cases t <;> rfl

theorem m1Class_port (sb : Byte) : ((m1Class sb).map Value.message).port = m1ClassPort sb.toNat := by
  unfold m1ClassPort
  obtain h | ⟨t, h⟩ | h | ⟨hlo, hhi⟩ | h := byte_ranges sb
  · rw [m1Class_of_lt h, if_pos h]
    rfl
  · have ht := t.nibble_range
    rw [m1Class_channel t h, if_neg (by omega), if_pos (by omega), h]
    exact port_ok_of_pack (pack_channel t)
  · rw [m1Class_exclusive h, h]
    rfl
  · simp (disch := omega) only [m1Class_common hlo hhi, if_neg, if_pos]
    rfl
  · simp (disch := omega) only [m1Class_realTime h, if_neg]
    rfl

/-- R115 in numbers: the one data byte of Program Change (0xC) and Channel Pressure (0xD), the two of the others. -/
theorem ChannelMessage.count_eq (t : ChannelMessage) :
    t.count = if 0xC ≤ t.nibble.toNat ∧ t.nibble.toNat < 0xE then 1 else 2 := by
  cases t <;> rfl

theorem m1NdbPort_channel (resolve : Bool) {n : Nat} (t : ChannelMessage) (h : n / 16 = t.nibble.toNat) :
    m1NdbPort resolve n = okPort t.count := by
  have ht := t.nibble_range
  have hone : (0xC ≤ t.nibble.toNat ∧ t.nibble.toNat < 0xE) ↔ (0xC0 ≤ n ∧ n < 0xE0) := by omega
  rw [m1NdbPort, if_neg (by omega), t.count_eq, if_pos (by omega : n < 0xF0), if_congr hone rfl rfl]
  split <;> rfl

/-- R117 in numbers, byte by byte. -/
theorem sysCommon_port (sb : Byte) (hlo : 0xF1 ≤ sb.toNat) (hhi : sb.toNat ≤ 0xF7) :
    ((sysCommon sb).map Value.dataBytes).port = m1NdbPort true sb.toNat := by
  revert sb
  decide

theorem m1Ndb_port (p : Params) (sb : Byte) :
    ((m1Ndb p sb).map Value.dataBytes).port = m1NdbPort p.sysCommonResolve sb.toNat := by
  obtain h | ⟨t, h⟩ | h | ⟨hlo, hhi⟩ | h := byte_ranges sb
  · rw [m1Ndb_of_lt p h, m1NdbPort, if_pos h]
    rfl
  · rw [m1Ndb_channel p t h, m1NdbPort_channel _ t h]
    rfl
  · rw [m1Ndb_exclusive p h, h]
    rfl
  · cases hr : p.sysCommonResolve with
    | true =>
      rw [m1Ndb_common_resolved p hlo hhi hr]
      exact sysCommon_port sb hlo hhi
    | false =>
      simp (disch := omega) only [m1Ndb_common_unresolved p hlo hhi hr, m1NdbPort, if_neg]
      rfl
  · simp (disch := omega) only [m1Ndb_realTime p h, m1NdbPort, if_neg, if_pos]
    rfl

theorem ciPtype_port (f : Frame) : ((ciPtype f).map Value.protocolType).port = ciPtypePort f.n0.toNat := by
  rw [ciPtype_eq_toNat, ciPtypePort]
  split_ifs <;> rfl

theorem ciPver_port (f : Frame) :
    ((ciPver f).map Value.protocolVersion).port = ciPverPort f.n0.toNat f.n1.toNat := by
  rw [ciPver_eq_toNat, ciPverPort]
  split_ifs <;> rfl

theorem ciVal_port (p : Params) (f : Frame) :
    ((ciVal p f).map fun _ => Value.unit).port =
      ciValPort p.strictExtReserved f.n2.toNat f.n3.toNat f.n4.toNat := by
  rw [ciVal_eq_toNat, ciValPort]
  split_ifs <;> rfl

/-- R75: the two flags are packed as the number that bits 1 and 0 of byte 2 are. -/
theorem pack_extensions : ∀ b : Byte,
    (Value.extensions { jitterReduction := b.getLsbD 0, largePackets := b.getLsbD 1 }).pack =
      BitVec.ofNat 8 (b.toNat % 4) := by decide

theorem ciExt_port (f : Frame) : ((ciExt f).map Value.extensions).port = ciExtPort f.n0.toNat f.n2.toNat := by
  rw [ciExt_eq_toNat, ciExtPort]
  split_ifs
  · exact port_ok_of_pack (pack_extensions f.n2)
  · rfl
  · rfl

/-- Settles O55: each operation answers by R20's function, whose port is computed operation by operation above. -/
theorem portAfterEachOperation : Obligations.PortAfterEachOperation := by
  intro s
  have port (sel : Nibble) {r : ResponsePort} (hr : (respond s.params sel s.operands).port = r) :
      portAfterExec (decodeOp sel) s = some r :=
    (portAfterExec_decodeOp sel s).trans (congrArg some hr)
  exact ⟨port 0x0#4 (mtChk_port _), port 0x1#4 (grpChk_port _ _), port 0x2#4 (umpMt_port _),
    port 0x3#4 (umpGrp_port _ _), port 0x4#4 (umpLen_port _), port 0x5#4 (m1Sval_port _), port 0x6#4 (m1Class_port _),
    port 0x7#4 (m1Ndb_port _ _), port 0x8#4 (m1Dval_port _), port 0x9#4 (ciPtype_port _), port 0xA#4 (ciPver_port _),
    port 0xB#4 (ciVal_port _ _), port 0xC#4 (ciExt_port _)⟩

end Sys2Proof.Machine

namespace Sys2Proof.Machine

/-! ### Unit U0 by the table of R61 and R104 -/

/-- A header word whose top four bits are the code of a tag (R61) selects that tag. -/
theorem ofCode_nib_7_of_code {w0 : Word} {t : MessageType} (h : w0.toNat / 2 ^ 28 = t.code.toNat) :
    MessageType.ofCode (nib w0 7) = t := by
  have hcode : nib w0 7 = t.code := BitVec.eq_of_toNat_eq ((nib_7_toNat w0).trans h)
  rw [hcode, MessageType.ofCode_code]

/-- The lengths of the restated table of R104 are the model's. -/
theorem packetWords_of_mem_headerTable : ∀ row ∈ headerTable, packetWords row.2.1 = row.2.2 := by decide

section
variable {w : Packet} {c : Nat} {t : MessageType} {n : Nat}

theorem ofCode_nib_7_of_mem_headerTable (hmem : (c, t, n) ∈ headerTable) (hw : w.w0.toNat / 2 ^ 28 = c) :
    MessageType.ofCode (nib w.w0 7) = t :=
  ofCode_nib_7_of_code (hw.trans (code_of_mem_headerTable (c, t, n) hmem))

theorem umpMt_of_mem_headerTable (hmem : (c, t, n) ∈ headerTable) (hw : w.w0.toNat / 2 ^ 28 = c) :
    umpMt w = .ok t := by
  rw [umpMt_eq, ofCode_nib_7_of_mem_headerTable hmem hw]

theorem umpLen_of_mem_headerTable (hmem : (c, t, n) ∈ headerTable) (hw : w.w0.toNat / 2 ^ 28 = c) :
    umpLen w = .ok n := by
  rw [umpLen_eq, ofCode_nib_7_of_mem_headerTable hmem hw]
  exact congrArg Result.ok (packetWords_of_mem_headerTable (c, t, n) hmem)

end

theorem umpGrp_eq_toNat (p : Params) (w : Packet) : umpGrp p w = .ok (w.w0.toNat / 2 ^ 24 % 16) := by
  rw [umpGrp_eq, nib_toNat]

/-- Settles O22: the row's code is the code of its tag. -/
theorem headerMessageType : Obligations.HeaderMessageType := fun _ _ _ _ hmem hw =>
  exec_of_respond rfl (congrArg (Result.map Value.messageType) (umpMt_of_mem_headerTable hmem hw))

/-- Settles O23: `UMP.GRP` is the nibble of bits 27..24, under every bound. -/
theorem headerGroup : Obligations.HeaderGroup := fun s =>
  exec_of_respond rfl (congrArg (Result.map Value.group) (umpGrp_eq_toNat s.params s.operands.w))

/-- Settles O24: the row's code selects its tag, and the tag its length. -/
theorem headerPacketLength : Obligations.HeaderPacketLength := fun _ _ _ _ hmem hw =>
  exec_of_respond rfl (congrArg (Result.map Value.words) (umpLen_of_mem_headerTable hmem hw))

end Sys2Proof.Machine

namespace Sys2Proof.Machine

/-! ### The host's walk over a stream (R106, R107)

The fuel of `walkFrom` is used up in one induction, which gives the relation `Walks`; what holds of every walk is read off
the relation. -/

/-- The packet that a walk finds at cursor `cur`. -/
def packetAt (p : Params) (filler : Nat → Nat → Word) (S : List Word) (cur : Nat) : WalkedPacket :=
  let port := streamPacket filler S cur
  let words := packetWords (MessageType.ofCode (nib port.w0 7))
  { start := cur, words := words, messageType := umpMt port, group := umpGrp p port
    truncated := decide (S.length < cur + words) }

/-- The walk from cursor `cur` finds these packets and ends at this cursor, whatever the fuel: it goes on exactly while the
cursor is inside the stream. -/
inductive Walks (p : Params) (filler : Nat → Nat → Word) (S : List Word) : Nat → List WalkedPacket → Nat → Prop
  | atEnd {cur : Nat} (h : S.length ≤ cur) : Walks p filler S cur [] cur
  | packet {cur last : Nat} {qs : List WalkedPacket} (h : cur < S.length)
      (rest : Walks p filler S (cur + (packetAt p filler S cur).words) qs last) :
      Walks p filler S cur (packetAt p filler S cur :: qs) last

section
variable {p : Params} {filler : Nat → Nat → Word} {S : List Word}

theorem umpLen_streamPacket (cur : Nat) :
    umpLen (streamPacket filler S cur) = .ok (packetAt p filler S cur).words := umpLen_eq _

theorem packetAt_words_range (cur : Nat) :
    1 ≤ (packetAt p filler S cur).words ∧ (packetAt p filler S cur).words ≤ 4 := packetWords_range _

theorem packetAt_truncated_iff (cur : Nat) :
    (packetAt p filler S cur).truncated = true ↔ S.length < cur + (packetAt p filler S cur).words := decide_eq_true_iff

theorem walkFrom_of_ge (fuel : Nat) {cur : Nat} (h : S.length ≤ cur) : walkFrom p filler S fuel cur = ([], cur) := by
  cases fuel with
  | zero => rfl
  | succ k => rw [walkFrom, if_neg (Nat.not_lt.mpr h)]

theorem walkFrom_of_lt (k : Nat) {cur : Nat} (h : cur < S.length) :
    walkFrom p filler S (k + 1) cur =
      (packetAt p filler S cur :: (walkFrom p filler S k (cur + (packetAt p filler S cur).words)).1,
        (walkFrom p filler S k (cur + (packetAt p filler S cur).words)).2) := by
  rw [walkFrom, if_pos h, umpLen_streamPacket (p := p)]
  rfl

/-- Every packet takes at least one word, so fuel for the rest of the stream is enough. -/
theorem walks_walkFrom (fuel cur : Nat) (h : S.length ≤ cur + fuel) :
    Walks p filler S cur (walkFrom p filler S fuel cur).1 (walkFrom p filler S fuel cur).2 := by
  induction fuel generalizing cur with
  | zero => exact .atEnd h
  | succ k ih =>
    rcases Nat.lt_or_ge cur S.length with hlt | hge
    · have hwords : 1 ≤ (packetAt p filler S cur).words := (packetAt_words_range cur).1
      rw [walkFrom_of_lt k hlt]
      exact .packet hlt (ih _ (by omega))
    · rw [walkFrom_of_ge _ hge]
      exact .atEnd hge

theorem walks_walkStream : Walks p filler S 0 (walkStream p filler S).1 (walkStream p filler S).2 :=
  walks_walkFrom S.length 0 (Nat.zero_add _).ge

theorem Walks.length_le {cur last : Nat} {qs : List WalkedPacket} (h : Walks p filler S cur qs last) :
    S.length ≤ last := by
  induction h with
  | atEnd hge => exact hge
  | packet _ _ ih => exact ih

theorem Walks.last_eq {cur last : Nat} {qs : List WalkedPacket} (h : Walks p filler S cur qs last) :
    last = cur + (qs.map WalkedPacket.words).sum := by
  induction h with
  | atEnd => rfl
  | packet _ _ ih => rw [ih, List.map_cons, List.sum_cons, Nat.add_assoc]

/-- The packets from any point of a walk on are a walk from the sum of the lengths before it. -/
theorem Walks.drop_before {before qs : List WalkedPacket} {cur last : Nat}
    (h : Walks p filler S cur (before ++ qs) last) :
    Walks p filler S (cur + (before.map WalkedPacket.words).sum) qs last := by
  induction before generalizing cur with
  | nil => exact h
  | cons q before ih =>
    cases h with
    | packet _ rest =>
      rw [List.map_cons, List.sum_cons, ← Nat.add_assoc]
      exact ih rest

theorem Walks.lt_of_ne_nil {cur last : Nat} {qs : List WalkedPacket} (h : Walks p filler S cur qs last)
    (hne : qs ≠ []) : cur < S.length := by
  cases h with
  | atEnd => exact absurd rfl hne
  | packet hlt _ => exact hlt

theorem walks_cons_iff {cur last : Nat} {q : WalkedPacket} {qs : List WalkedPacket} :
    Walks p filler S cur (q :: qs) last ↔
      q = packetAt p filler S cur ∧ cur < S.length ∧ Walks p filler S (cur + q.words) qs last := by
  constructor
  · rintro (_ | ⟨hlt, rest⟩)
    exact ⟨rfl, hlt, rest⟩
  · rintro ⟨rfl, hlt, rest⟩
    exact .packet hlt rest

/-- Inside the stream the packet's header word is the stream's own, and no operation reads the other words. -/
theorem packetAt_congr_filler (f g : Nat → Nat → Word) {cur : Nat} (h : cur < S.length) :
    packetAt p f S cur = packetAt p g S cur := by
  have hw0 : (streamPacket f S cur).w0 = (streamPacket g S cur).w0 := by
    simp only [streamPacket, List.getD_eq_getElem _ _ h]
  simp only [packetAt, umpMt_eq, umpGrp_eq, hw0]

theorem walkFrom_congr_filler (f g : Nat → Nat → Word) (fuel cur : Nat) :
    walkFrom p f S fuel cur = walkFrom p g S fuel cur := by
  induction fuel generalizing cur with
  | zero => rfl
  | succ k ih =>
    rcases Nat.lt_or_ge cur S.length with hlt | hge
    · rw [walkFrom_of_lt k hlt, walkFrom_of_lt k hlt, packetAt_congr_filler f g hlt, ih]
    · rw [walkFrom_of_ge _ hge, walkFrom_of_ge _ hge]

end

/-- Settles O48: the walk is a `Walks` from cursor 0, and from each of its packets on it is one again. -/
theorem streamWalkCutsTheWholeStream : Obligations.StreamWalkCutsTheWholeStream := by
  intro p filler S
  have hwalk : Walks p filler S 0 (walkStream p filler S).1 (walkStream p filler S).2 := walks_walkStream
  refine ⟨hwalk.length_le, hwalk.last_eq.trans (Nat.zero_add _), fun before after q hq => ?start, fun q hmem => ?packet⟩
  case start =>
    rw [hq] at hwalk
    obtain ⟨rfl, -, -⟩ := walks_cons_iff.mp hwalk.drop_before
    exact Nat.zero_add _
  case packet =>
    obtain ⟨before, after, hq⟩ := List.append_of_mem hmem
    rw [hq] at hwalk
    obtain ⟨rfl, hlt, -⟩ := walks_cons_iff.mp hwalk.drop_before
    exact ⟨hlt, (packetAt_words_range _).1, (packetAt_words_range _).2, umpLen_streamPacket _, rfl, rfl,
      packetAt_truncated_iff _⟩

/-- Settles O49: the walk goes on only inside the stream, where the header word is the stream's own. -/
theorem streamWalkIgnoresTheFiller : Obligations.StreamWalkIgnoresTheFiller := fun _ f g S =>
  walkFrom_congr_filler f g S.length 0

/-- Settles O50: a packet that follows starts inside the stream, where the one before it ends. -/
theorem onlyTheLastPacketIsTruncated : Obligations.OnlyTheLastPacketIsTruncated := by
  intro p filler S before after q hq hne
  have hwalk : Walks p filler S 0 (before ++ q :: after) (walkStream p filler S).2 := hq ▸ walks_walkStream
  obtain ⟨rfl, -, rest⟩ := walks_cons_iff.mp hwalk.drop_before
  have hinside := rest.lt_of_ne_nil hne
  exact Bool.eq_false_iff.mpr fun htrunc => Nat.lt_asymm hinside ((packetAt_truncated_iff _).mp htrunc)

end Sys2Proof.Machine

namespace Sys2Proof.Machine

/-! ### Unit U1 by the tables of R63, R115 and R117 -/

/-- The high nibbles of the restated table of R63 are those of the tags. -/
theorem nibble_of_mem_channelTable : ∀ row ∈ channelTable, row.1 = row.2.1.nibble.toNat := by decide

/-- The counts of the restated table of R115 are the model's. -/
theorem count_of_mem_channelTable : ∀ row ∈ channelTable, row.2.1.count = row.2.2 := by decide

/-- The restated table of R117 lists System Common bytes only, with the answers of the model. -/
theorem sysCommon_of_mem_systemCommonTable : ∀ row ∈ systemCommonTable,
    0xF1 ≤ row.1 ∧ row.1 ≤ 0xF7 ∧ sysCommon (BitVec.ofNat 8 row.1) = row.2 := by decide

section
variable {sb : Byte} {high n b : Nat} {t : ChannelMessage} {r : Result DataBytes}

theorem m1Class_of_mem_channelTable (hmem : (high, t, n) ∈ channelTable) (hsb : sb.toNat / 16 = high) :
    m1Class sb = .ok (.channel t) :=
  m1Class_channel t (hsb.trans (nibble_of_mem_channelTable (high, t, n) hmem))

theorem m1Ndb_of_mem_channelTable (p : Params) (hmem : (high, t, n) ∈ channelTable) (hsb : sb.toNat / 16 = high) :
    m1Ndb p sb = .ok (.fixed n) := by
  rw [m1Ndb_channel p t (hsb.trans (nibble_of_mem_channelTable (high, t, n) hmem)),
    count_of_mem_channelTable (high, t, n) hmem]

theorem m1Ndb_of_mem_systemCommonTable {p : Params} (hr : p.sysCommonResolve = true)
    (hmem : (b, r) ∈ systemCommonTable) (hsb : sb.toNat = b) : m1Ndb p sb = r := by
  obtain ⟨hlo, hhi, hanswer⟩ := sysCommon_of_mem_systemCommonTable (b, r) hmem
  rw [← hsb] at hlo hhi hanswer
  rw [m1Ndb_common_resolved p hlo hhi hr, byte_eq_ofNat_toNat sb, hanswer]

end

/-- Settles O26: bit 7 of the byte decides. -/
theorem statusByteValidation : Obligations.StatusByteValidation := fun _ =>
  ⟨fun h => exec_of_respond rfl (congrArg (Result.map Value.statusByte) (m1Sval_of_lt h)),
    fun h => exec_of_respond rfl (congrArg (Result.map Value.statusByte) (m1Sval_of_ge h))⟩

/-- Settles O29: bit 7 of the byte decides, the other way round. -/
theorem dataByteValidation : Obligations.DataByteValidation := fun _ =>
  ⟨fun h => exec_of_respond rfl (congrArg (Result.map Value.dataByte) (m1Dval_of_lt h)),
    fun h => exec_of_respond rfl (congrArg (Result.map Value.dataByte) (m1Dval_of_ge h))⟩

/-- Settles O30: below 0x80 only `M1.DVAL` accepts the byte, from 0x80 on only `M1.SVAL`. -/
theorem everyByteIsStatusOrData : Obligations.EveryByteIsStatusOrData := by
  intro b
  rcases Nat.lt_or_ge b.toNat 0x80 with hdata | hstatus
  · rw [m1Sval_of_lt hdata, m1Dval_of_lt hdata]
    rfl
  · rw [m1Sval_of_ge hstatus, m1Dval_of_ge hstatus]
    rfl

/-- Settles O27, range by range of the byte space. -/
theorem statusByteClassification : Obligations.StatusByteClassification := by
  intro s
  have answer {r : Result Message} (hr : m1Class s.operands.sb = r) :
      exec .m1Class s = .next (s.answer 6#4 (r.map .message)) :=
    exec_of_respond rfl (congrArg (Result.map Value.message) hr)
  exact ⟨fun h => answer (m1Class_of_lt h), fun _ _ _ hmem h => answer (m1Class_of_mem_channelTable hmem h),
    fun h => answer (m1Class_exclusive h), fun hlo hhi => answer (m1Class_common hlo hhi),
    fun h => answer (m1Class_realTime h)⟩

/-- Settles O28, range by range of the byte space; only System Common depends on the build. -/
theorem dataByteCount : Obligations.DataByteCount := by
  intro s
  have answer {r : Result DataBytes} (hr : m1Ndb s.params s.operands.sb = r) :
      exec .m1Ndb s = .next (s.answer 7#4 (r.map .dataBytes)) :=
    exec_of_respond rfl (congrArg (Result.map Value.dataBytes) hr)
  exact ⟨fun h => answer (m1Ndb_of_lt _ h), fun _ _ _ hmem h => answer (m1Ndb_of_mem_channelTable _ hmem h),
    fun h => answer (m1Ndb_exclusive _ h), fun hlo hhi hr => answer (m1Ndb_common_unresolved _ hlo hhi hr),
    fun _ _ hmem h hr => answer (m1Ndb_of_mem_systemCommonTable hr hmem h), fun h => answer (m1Ndb_realTime _ h)⟩

/-! ### The rows of format M1BYTE -/

theorem dataByteOf_toNat (payload : BitVec 7) : (dataByteOf payload).toNat = payload.toNat := by
  rw [dataByteOf, BitVec.toNat_append, BitVec.toNat_ofNat, Nat.zero_mod, Nat.zero_shiftLeft, Nat.zero_or]

theorem statusByteOf_toNat (high low : Nibble) : (statusByteOf high low).toNat = high.toNat * 16 + low.toNat := by
  rw [statusByteOf, BitVec.toNat_append, ← Nat.shiftLeft_add_eq_or_of_lt low.isLt, Nat.shiftLeft_eq]

/-- The first line of R118: of a data byte, every operation but `M1.DVAL` answers an error. -/
theorem byteAnswers_of_lt (p : Params) {b : Byte} (h : b.toNat < 0x80) :
    byteAnswers p b =
      [⟨0x5#4, .err .invalidStatusByte 0#3⟩, ⟨0x6#4, .err .invalidStatusByte 0#3⟩,
       ⟨0x7#4, .err .invalidStatusByte 0#3⟩, ⟨0x8#4, .ok (.dataByte b)⟩] := by
  simp only [byteAnswers, m1Sval_of_lt h, m1Class_of_lt h, m1Ndb_of_lt p h, m1Dval_of_lt h, Result.map_ok,
    Result.map_err]

/-- The other lines of R118: of a status byte, `M1.DVAL` answers the error. -/
theorem byteAnswers_of_ge (p : Params) {b : Byte} (h : 0x80 ≤ b.toNat) :
    byteAnswers p b =
      [⟨0x5#4, .ok (.statusByte b)⟩, ⟨0x6#4, (m1Class b).map .message⟩, ⟨0x7#4, (m1Ndb p b).map .dataBytes⟩,
       ⟨0x8#4, .err .invalidDataByte 0#3⟩] := by
  simp only [byteAnswers, m1Sval_of_ge h, m1Dval_of_ge h, Result.map_ok, Result.map_err]

/-- Settles O37: the byte of the row is below 0x80. -/
theorem dataByteRowAnswersItsTable : Obligations.DataByteRowAnswersItsTable := by
  intro s d
  have hbyte : dataByteOf d = BitVec.ofNat 8 d.toNat := by
    rw [← dataByteOf_toNat]
    exact byte_eq_ofNat_toNat _
  have hdata : (dataByteOf d).toNat < 0x80 := by
    rw [dataByteOf_toNat]
    exact d.isLt
  rw [exec_of_encode_byte (.m1Data d) _ s rfl, presentByte_eq, byteAnswers_of_lt _ hdata, hbyte]
  rfl

section
variable {i : Instr} {sb : Byte} {b : Nat} {s : State} {d : Result DataBytes}

/-- A row of a status byte, from what `M1.CLASS` and `M1.NDB` say of its byte. -/
theorem exec_statusRow {m : Message} (hi : encode i = .byte sb) (hsb : sb.toNat = b) (hb : 0x80 ≤ b)
    (hm : m1Class sb = .ok m) (hd : m1Ndb s.params sb = d) : exec i s = .next (afterStatusRow s b m d) := by
  subst hsb
  rw [exec_of_encode_byte i sb s hi, presentByte_eq, byteAnswers_of_ge _ hb, hm, hd, afterStatusRow,
    ← byte_eq_ofNat_toNat]
  rfl

/-- A row of a channel status (R63): the high nibble decides, whatever the low one. -/
theorem exec_channelRow {l : Nibble} (t : ChannelMessage) (hi : encode i = .byte (statusByteOf t.nibble l)) :
    exec i s =
      .next (afterStatusRow s (t.nibble.toNat * 16 + l.toNat) (.channel t) (.ok (.fixed t.count))) := by
  have ht := t.nibble_range
  have hl := l.isLt
  have hsb := statusByteOf_toNat t.nibble l
  have hhigh : (statusByteOf t.nibble l).toNat / 16 = t.nibble.toNat := by omega
  exact exec_statusRow hi hsb (by omega) (m1Class_channel t hhigh) (m1Ndb_channel _ t hhigh)

/-- A row of System Common (R64): only the answer of `M1.NDB` depends on the build. -/
theorem exec_commonRow (hi : encode i = .byte sb) (hsb : sb.toNat = b) (hlo : 0xF1 ≤ b) (hhi : b ≤ 0xF7)
    (hd : m1Ndb s.params sb = d) : exec i s = .next (afterStatusRow s b (.system .common) d) := by
  subst hsb
  exact exec_statusRow hi rfl (by omega) (m1Class_common hlo hhi) hd

theorem exec_commonRow_resolved (hr : s.params.sysCommonResolve = true) (hi : encode i = .byte sb)
    (hsb : sb.toNat = b) (hmem : (b, d) ∈ systemCommonTable) :
    exec i s = .next (afterStatusRow s b (.system .common) d) := by
  obtain ⟨hlo, hhi, -⟩ := sysCommon_of_mem_systemCommonTable (b, d) hmem
  exact exec_commonRow hi hsb hlo hhi (m1Ndb_of_mem_systemCommonTable hr hmem hsb)

end

/-- Settles O38: each row presents a byte with the high nibble of its tag. -/
theorem channelRowsAnswerTheirTable : Obligations.ChannelRowsAnswerTheirTable := fun _ _ =>
  ⟨exec_channelRow .noteOff rfl, exec_channelRow .noteOn rfl, exec_channelRow .polyphonicKeyPressureOrAftertouch rfl,
    exec_channelRow .controlChangeOrChannelMode rfl, exec_channelRow .programChange rfl,
    exec_channelRow .channelPressureOrAftertouch rfl, exec_channelRow .pitchBendChange rfl⟩

/-- The rows of System Common with their status bytes (R64). -/
def systemCommonRows : List (Instr × Nat) :=
  [(.m1SystemCommonF1, 0xF1), (.m1SystemCommonF2, 0xF2), (.m1SystemCommonF3, 0xF3), (.m1SystemCommonF4, 0xF4),
   (.m1SystemCommonF5, 0xF5), (.m1SystemCommonF6, 0xF6), (.m1SystemCommonF7, 0xF7)]

theorem encode_of_mem_systemCommonRows : ∀ row ∈ systemCommonRows,
    encode row.1 = .byte (BitVec.ofNat 8 row.2) ∧ 0xF1 ≤ row.2 ∧ row.2 ≤ 0xF7 := by decide

/-- Settles O39: 0xF0 and real time whatever the build, System Common under each setting. -/
theorem systemRowsAnswerTheirTable : Obligations.SystemRowsAnswerTheirTable := by
  intro s
  refine ⟨exec_statusRow rfl rfl (by decide) rfl rfl, fun l hl => ?realTime, fun hr i b hmem => ?unresolved,
    fun hr => ?resolved⟩
  case realTime =>
    have hsb : (statusByteOf 0xF#4 l).toNat = 0xF0 + l.toNat := statusByteOf_toNat 0xF#4 l
    have hlo : 0xF8 ≤ (statusByteOf 0xF#4 l).toNat := by omega
    exact exec_statusRow rfl hsb (by omega) (m1Class_realTime hlo) (m1Ndb_realTime _ hlo)
  case unresolved =>
    obtain ⟨hi, hlo, hhi⟩ := encode_of_mem_systemCommonRows (i, b) hmem
    have hsb : (BitVec.ofNat 8 b).toNat = b := Nat.mod_eq_of_lt (by omega : b < 2 ^ 8)
    exact exec_commonRow hi hsb hlo hhi (m1Ndb_common_unresolved _ (hsb.symm ▸ hlo) (hsb.symm ▸ hhi) hr)
  case resolved =>
    refine ⟨?_, ?_, ?_, ?_, ?_, ?_, ?_⟩ <;> exact exec_commonRow_resolved hr rfl rfl (by decide)

/-! ### The host's assembly of a message (R116) -/

theorem assembleMessage_of_fixed {p : Params} {sb : Byte} {n : Nat} (h : m1Ndb p sb = .ok (.fixed n)) (bs : List Byte) :
    assembleMessage p (sb :: bs) = takeDataBytes [sb] n bs := by
  rw [assembleMessage, h]

theorem assembleMessage_of_untilEox {p : Params} {sb : Byte} (h : m1Ndb p sb = .ok .untilEox) (bs : List Byte) :
    assembleMessage p (sb :: bs) = takeUntilEox [sb] bs := by
  rw [assembleMessage, h]

section
variable (taken : List Byte) {b : Byte} (bs : List Byte)

theorem takeDataBytes_cons_of_lt (k : Nat) (h : b.toNat < 0x80) :
    takeDataBytes taken (k + 1) (b :: bs) = takeDataBytes (taken ++ [b]) k bs := by
  rw [takeDataBytes, m1Dval_of_lt h]

theorem takeUntilEox_cons_of_lt (h : b.toNat < 0x80) :
    takeUntilEox taken (b :: bs) = takeUntilEox (taken ++ [b]) bs := by
  have hne : b ≠ 0xF7#8 := by
    rintro rfl
    exact absurd h (by decide)
  rw [takeUntilEox, if_neg hne, m1Dval_of_lt h]

theorem takeUntilEox_eox : takeUntilEox taken (0xF7#8 :: bs) = .message (taken ++ [0xF7#8]) bs := by
  rw [takeUntilEox, if_pos rfl]

end

/-- Asked for as many bytes as a body of data bytes holds, the host takes the body. -/
theorem takeDataBytes_append (taken body bs : List Byte) (hdata : ∀ b ∈ body, b.toNat < 0x80) :
    takeDataBytes taken body.length (body ++ bs) = .message (taken ++ body) bs := by
  induction body generalizing taken with
  | nil => rw [List.append_nil, List.nil_append, List.length_nil, takeDataBytes]
  | cons b body ih =>
    obtain ⟨hb, hbody⟩ := List.forall_mem_cons.mp hdata
    rw [List.length_cons, List.cons_append, takeDataBytes_cons_of_lt _ _ _ hb, ih _ hbody, List.append_assoc,
      List.singleton_append]

/-- Data bytes before a terminator are taken one by one, and the host goes on after them. -/
theorem takeUntilEox_append (taken body bs : List Byte) (hdata : ∀ b ∈ body, b.toNat < 0x80) :
    takeUntilEox taken (body ++ bs) = takeUntilEox (taken ++ body) bs := by
  induction body generalizing taken with
  | nil => rw [List.append_nil, List.nil_append]
  | cons b body ih =>
    obtain ⟨hb, hbody⟩ := List.forall_mem_cons.mp hdata
    rw [List.cons_append, takeUntilEox_cons_of_lt _ _ hb, ih _ hbody, List.append_assoc, List.singleton_append]

/-- Settles O51: the count of `M1.NDB` is the length of the body. -/
theorem fixedMessagesTakeTheirCount : Obligations.FixedMessagesTakeTheirCount := by
  intro p sb n body rest hcount hlength hdata
  rw [assembleMessage_of_fixed hcount, ← hlength]
  exact takeDataBytes_append [sb] body rest hdata

/-- Settles O52: the host takes the body, and then sees the terminator. -/
theorem exclusiveMessagesEndAtTheirTerminator : Obligations.ExclusiveMessagesEndAtTheirTerminator := by
  intro p body rest hdata
  rw [assembleMessage_of_untilEox (m1Ndb_exclusive p rfl), takeUntilEox_append _ _ _ hdata, takeUntilEox_eox]
  rfl

end Sys2Proof.Machine

namespace Sys2Proof.Machine

/-! ### Unit U2 by the values of the payload bytes (R131 to R134) -/

section
variable {f : Frame} {p : Params}

theorem ciPtype_midi1 (h : f.n0.toNat = 1) : ciPtype f = .ok .midi1 := by
  rw [ciPtype_eq_toNat, if_pos h]

theorem ciPtype_midi2 (h : f.n0.toNat = 2) : ciPtype f = .ok .midi2 := by
  simp (disch := omega) only [ciPtype_eq_toNat, if_neg, if_pos]

/-- Every value but 1 and 2 is rejected, 0 included (R131). -/
theorem ciPtype_unrecognized (h : f.n0.toNat = 0 ∨ 3 ≤ f.n0.toNat) :
    ciPtype f = .err .unrecognizedProtocolType 0#3 := by
  simp (disch := omega) only [ciPtype_eq_toNat, if_neg]

/-- Byte 1 is tested before byte 0 (D12). -/
theorem ciPver_of_byte1_ne (h : f.n1.toNat ≠ 0) : ciPver f = .err .unrecognizedProtocolVersion 0#3 := by
  rw [ciPver_eq_toNat, if_pos h]

theorem ciPver_midi1 (h1 : f.n1.toNat = 0) (h0 : f.n0.toNat = 1) : ciPver f = .ok .midi1 := by
  simp (disch := omega) only [ciPver_eq_toNat, if_neg, if_pos]

theorem ciPver_midi2v1 (h1 : f.n1.toNat = 0) (h0 : f.n0.toNat = 2) : ciPver f = .ok .midi2v1 := by
  simp (disch := omega) only [ciPver_eq_toNat, if_neg, if_pos]

theorem ciPver_unrecognized (h1 : f.n1.toNat = 0) (h0 : f.n0.toNat = 0 ∨ 3 ≤ f.n0.toNat) :
    ciPver f = .err .unrecognizedProtocolType 0#3 := by
  simp (disch := omega) only [ciPver_eq_toNat, if_neg]

/-- Index 2 is the lowest one `CI.VAL` reports (D11, D14). -/
theorem ciVal_of_byte2_ne (hp : p.strictExtReserved = true) (h2 : f.n2.toNat / 4 ≠ 0) :
    ciVal p f = .err .reservedByteViolation 2#3 := by
  rw [ciVal_eq_toNat, if_pos ⟨hp, h2⟩]

/-- Without the strict check of byte 2 (R136), or when it passes, bytes 3 and 4 decide. -/
theorem ciVal_of_byte2_passes (h2 : p.strictExtReserved = false ∨ f.n2.toNat / 4 = 0) :
    ciVal p f =
      if f.n3.toNat ≠ 0 then .err .reservedByteViolation 3#3
      else if f.n4.toNat ≠ 0 then .err .reservedByteViolation 4#3
      else .ok () := by
  have hpass : ¬(p.strictExtReserved = true ∧ f.n2.toNat / 4 ≠ 0) := by
    rcases h2 with hlax | hzero
    · simp [hlax]
    · exact fun hviolates => hviolates.2 hzero
  rw [ciVal_eq_toNat, if_neg hpass]

theorem ciVal_of_byte3_ne (h2 : p.strictExtReserved = false ∨ f.n2.toNat / 4 = 0) (h3 : f.n3.toNat ≠ 0) :
    ciVal p f = .err .reservedByteViolation 3#3 := by
  rw [ciVal_of_byte2_passes h2, if_pos h3]

theorem ciVal_of_byte4_ne (h2 : p.strictExtReserved = false ∨ f.n2.toNat / 4 = 0) (h3 : f.n3.toNat = 0)
    (h4 : f.n4.toNat ≠ 0) : ciVal p f = .err .reservedByteViolation 4#3 := by
  rw [ciVal_of_byte2_passes h2, if_neg (not_not.mpr h3), if_pos h4]

theorem ciVal_ok (h2 : p.strictExtReserved = false ∨ f.n2.toNat / 4 = 0) (h3 : f.n3.toNat = 0)
    (h4 : f.n4.toNat = 0) : ciVal p f = .ok () := by
  rw [ciVal_of_byte2_passes h2, if_neg (not_not.mpr h3), if_neg (not_not.mpr h4)]

theorem getLsbD_0_eq_decide (b : Byte) : b.getLsbD 0 = decide (b.toNat % 2 = 1) := Nat.testBit_zero b.toNat

theorem getLsbD_1_eq_decide (b : Byte) : b.getLsbD 1 = decide (b.toNat / 2 % 2 = 1) :=
  Nat.testBit_eq_decide_div_mod_eq

theorem ciExt_midi1 (h : f.n0.toNat = 1) :
    ciExt f = .ok { jitterReduction := decide (f.n2.toNat % 2 = 1)
                    largePackets := decide (f.n2.toNat / 2 % 2 = 1) } := by
  rw [ciExt_eq_toNat, if_pos h, getLsbD_0_eq_decide, getLsbD_1_eq_decide]

theorem ciExt_midi2 (h : f.n0.toNat = 2) : ciExt f = .err .extensionsNotApplicable 0#3 := by
  simp (disch := omega) only [ciExt_eq_toNat, if_neg, if_pos]

/-- An unrecognized type keeps its own error (D13). -/
theorem ciExt_unrecognized (h : f.n0.toNat = 0 ∨ 3 ≤ f.n0.toNat) :
    ciExt f = .err .unrecognizedProtocolType 0#3 := by
  simp (disch := omega) only [ciExt_eq_toNat, if_neg]

end

/-- Settles O31, value by value of byte 0. -/
theorem protocolTypeOfAFrame : Obligations.ProtocolTypeOfAFrame := by
  intro s
  have answer {r : Result ProtocolType} (hr : ciPtype s.operands.n = r) :
      exec .ciPtype s = .next (s.answer 9#4 (r.map .protocolType)) :=
    exec_of_respond rfl (congrArg (Result.map Value.protocolType) hr)
  exact ⟨fun h => answer (ciPtype_midi1 h), fun h => answer (ciPtype_midi2 h),
    fun h => answer (ciPtype_unrecognized h)⟩

/-- Settles O32: byte 1 first, then byte 0. -/
theorem protocolVersionOfAFrame : Obligations.ProtocolVersionOfAFrame := by
  intro s
  have answer {r : Result ProtocolVersion} (hr : ciPver s.operands.n = r) :
      exec .ciPver s = .next (s.answer 10#4 (r.map .protocolVersion)) :=
    exec_of_respond rfl (congrArg (Result.map Value.protocolVersion) hr)
  exact ⟨fun h1 => answer (ciPver_of_byte1_ne h1), fun h1 => ⟨fun h0 => answer (ciPver_midi1 h1 h0),
    fun h0 => answer (ciPver_midi2v1 h1 h0), fun h0 => answer (ciPver_unrecognized h1 h0)⟩⟩

/-- Settles O33: byte 2 in a strict build, then byte 3, then byte 4. -/
theorem reservedBytesOfAFrame : Obligations.ReservedBytesOfAFrame := by
  intro s
  have answer {r : Result Unit} (hr : ciVal s.params s.operands.n = r) :
      exec .ciVal s = .next (s.answer 11#4 (r.map fun _ => .unit)) :=
    exec_of_respond rfl (congrArg (Result.map fun _ => Value.unit) hr)
  exact ⟨fun hp h2 => answer (ciVal_of_byte2_ne hp h2), fun h2 => ⟨fun h3 => answer (ciVal_of_byte3_ne h2 h3),
    fun h3 h4 => answer (ciVal_of_byte4_ne h2 h3 h4), fun h3 h4 => answer (ciVal_ok h2 h3 h4)⟩⟩

/-- Settles O34, value by value of byte 0. -/
theorem extensionFlagsOfAFrame : Obligations.ExtensionFlagsOfAFrame := by
  intro s
  have answer {r : Result Midi1Extensions} (hr : ciExt s.operands.n = r) :
      exec .ciExt s = .next (s.answer 12#4 (r.map .extensions)) :=
    exec_of_respond rfl (congrArg (Result.map Value.extensions) hr)
  exact ⟨fun h => answer (ciExt_midi1 h), fun h => answer (ciExt_midi2 h), fun h => answer (ciExt_unrecognized h)⟩

/-! ### The accepted frames (R65, R135) -/

/-- R65: the two accepted shapes, byte by byte; the extension byte is free. -/
theorem exists_decodeFrame_iff (f : Frame) :
    (∃ i, decodeFrame f = .ok i) ↔
      (f.n1.toNat = 0 ∧ (f.n0.toNat = 1 ∨ f.n0.toNat = 2)) ∧ f.n3.toNat = 0 ∧ f.n4.toNat = 0 := by
  simp only [decodeFrame, ne_eq, BitVec.toNat_eq, BitVec.toNat_ofNat]
  split_ifs
  all_goals
    simp only [exists_false, Except.ok.injEq, exists_eq', false_iff, true_iff]
    omega

theorem ciPver_isOk_iff (f : Frame) :
    (ciPver f).isOk = true ↔ f.n1.toNat = 0 ∧ (f.n0.toNat = 1 ∨ f.n0.toNat = 2) := by
  rw [ciPver_eq_toNat]
  split_ifs
  all_goals
    simp only [Result.isOk_ok, Result.isOk_err, Bool.false_eq_true, false_iff, true_iff]
    omega

theorem ciVal_isOk_iff {p : Params} (f : Frame) (hp : p.strictExtReserved = false) :
    (ciVal p f).isOk = true ↔ f.n3.toNat = 0 ∧ f.n4.toNat = 0 := by
  rw [ciVal_of_byte2_passes (.inl hp)]
  split_ifs
  all_goals
    simp only [Result.isOk_ok, Result.isOk_err, Bool.false_eq_true, false_iff, true_iff]
    omega

/-- Settles O4: `CI.PVER` accepts the bytes 0 and 1 of a row, `CI.VAL` its bytes 3 and 4. -/
theorem negotiationRowsAreTheAcceptedFrames : Obligations.NegotiationRowsAreTheAcceptedFrames := by
  intro p f hp
  rw [frameAccepted, Bool.and_eq_true, ciPver_isOk_iff, ciVal_isOk_iff f hp]
  exact exists_decodeFrame_iff f

/-! ### Presented frames -/

/-- Presenting any payload gets the four answers of R20's function, and the port shows the last one. -/
theorem presentFrame_eq_afterFrameRow (f : Frame) (s : State) :
    presentFrame f s = afterFrameRow s f (respond s.params 12#4 (s.operands.withFrame f)).port
      (respond s.params 9#4 (s.operands.withFrame f)) (respond s.params 10#4 (s.operands.withFrame f))
      (respond s.params 11#4 (s.operands.withFrame f)) (respond s.params 12#4 (s.operands.withFrame f)) :=
  presentFrame_eq f s

/-- Settles O7: a step presents every frame, whether it is a row or not. -/
theorem unlistedFramesAreAnswered : Obligations.UnlistedFramesAreAnswered := by
  intro s f rest _ h _
  exact ⟨_, (step_frame s f rest h).trans (congrArg Host.Outcome.next (presentFrame_eq_afterFrameRow f _)), rfl⟩

/-- `CI.VAL` of an accepted frame: only the strict check of the extension byte can fail (R136). -/
theorem ciVal_acceptedFrame (p : Params) (ptype ext : Byte) :
    (ciVal p (acceptedFrame ptype ext)).map (fun _ => Value.unit) =
      if p.strictExtReserved = true ∧ ext.toNat / 4 ≠ 0 then .err .reservedByteViolation 2#3 else .ok .unit := by
  rw [ciVal_eq_toNat, apply_ite (Result.map _)]
  rfl

/-- A row of format NEG5, from what unit U2 says of the type of its frame. -/
theorem exec_frameRow {i : Instr} {ptype ext : Byte} {s : State} {t : ProtocolType} {v : ProtocolVersion}
    {e : Result Midi1Extensions} (hi : encode i = .frame (acceptedFrame ptype ext))
    (ht : ciPtype (acceptedFrame ptype ext) = .ok t) (hv : ciPver (acceptedFrame ptype ext) = .ok v)
    (he : ciExt (acceptedFrame ptype ext) = e) :
    exec i s = .next (afterFrameRow s (acceptedFrame ptype ext) (e.map Value.extensions).port
      (.ok (.protocolType t)) (.ok (.protocolVersion v))
      (if s.params.strictExtReserved = true ∧ ext.toNat / 4 ≠ 0 then .err .reservedByteViolation 2#3 else .ok .unit)
      (e.map .extensions)) := by
  rw [exec_of_encode_frame i _ s hi, presentFrame_eq, frameAnswers, ht, hv, ciVal_acceptedFrame, he]
  rfl

/-- Settles O40: the type of the row's frame decides all but the strict check of its extension byte. -/
theorem frameRowsAnswerTheirTable : Obligations.FrameRowsAnswerTheirTable := by
  intro s ext
  constructor
  · have hport := ciExt_port (acceptedFrame 0x01#8 ext)
    rw [ciExt_midi1 rfl] at hport
    rw [exec_frameRow rfl (ciPtype_midi1 rfl) (ciPver_midi1 rfl rfl) (ciExt_midi1 rfl), hport]
    rfl
  · exact exec_frameRow rfl (ciPtype_midi2 rfl) (ciPver_midi2v1 rfl rfl) (ciExt_midi2 rfl)

end Sys2Proof.Machine

namespace Sys2Proof.Machine

/-! ### Nothing stops the block (R153, R154) -/

theorem Answered.exists_next {s : State} {o : Host.Outcome State Fault Refusal} (h : Answered s o) :
    ∃ t, o = .next t := by
  obtain ⟨sel, x, answers, -, ho⟩ := h
  exact ⟨_, ho⟩

theorem exec_exists_next (i : Instr) (s : State) : ∃ t, exec i s = .next t := (exec_answers i s).exists_next

theorem step_exists_next (s : State) : ∃ t, step s = .next t := by
  obtain ⟨-, hidle⟩ | ⟨tr, rest, -, hanswered⟩ := step_cases s
  · exact ⟨s, hidle⟩
  · exact hanswered.exists_next

/-- Settles O8: every instruction answers, a step is idle or answers, and a request is answered by `respond`. -/
theorem nothingStopsTheBlock : Obligations.NothingStopsTheBlock :=
  ⟨exec_exists_next, step_exists_next, fun s sel x rest h => ⟨_, _, step_request s sel x rest h, rfl, rfl⟩⟩

theorem Transaction.length_answerList (p : Params) (tr : Transaction) : (tr.answerList p).length = tr.answers := by
  cases tr <;> rfl

theorem length_flatMap_answerList (p : Params) (l : List Transaction) :
    (l.flatMap (Transaction.answerList p)).length = (l.map Transaction.answers).sum := by
  simp only [List.length_flatMap, Transaction.length_answerList]

/-- Settles O9: the run records the answers of each transaction in turn, and each calls for as many as it lists. -/
theorem everyPendingTransactionIsAnswered : Obligations.EveryPendingTransactionIsAnswered := by
  intro s
  obtain ⟨t, hrun, hparams, hpending, hlog⟩ := run_pending_records_answerList s.pending s rfl
  refine ⟨t, hrun, hpending, hparams, ?_, ?_⟩
  · rw [hlog]
    exact List.prefix_append _ _
  · rw [hlog, List.length_append, length_flatMap_answerList]

/-- Settles O18: the second request sets the select, every operand port and the response port anew, and its answer depends
on the parameters beside it, which the first request keeps. -/
theorem anEarlierRequestLeavesNoTrace : Obligations.AnEarlierRequestLeavesNoTrace := by
  intro s sel sel' x x' rest h
  have hfirst := step_request s sel x _ h
  have hsecond := step_request _ sel' x' rest
    (rfl : (State.respondTo { s with opSel := sel, operands := x, pending := .request sel' x' :: rest } sel).pending = _)
  have halone := step_request { s with pending := .request sel' x' :: rest } sel' x' rest rfl
  refine ⟨_, _, ((core_run_succ 1 hfirst).trans (core_run_succ 0 hsecond)).trans (core_run_zero _),
    (core_run_succ 0 halone).trans (core_run_zero _), rfl, ?_⟩
  exact List.getLast?_concat.trans List.getLast?_concat.symm

/-- Settles O25: each header operation is `Ok` of a function of the header word, and every tag has a length from 1 to 4. -/
theorem headerOperationsNeverFail : Obligations.HeaderOperationsNeverFail := by
  intro p w
  obtain ⟨hlo, hhi⟩ := packetWords_range (MessageType.ofCode (nib w.w0 7))
  refine ⟨?_, ?_, _, umpLen_eq w, by omega⟩
  · rw [umpMt_eq, Result.isOk_ok]
  · rw [umpGrp_eq, Result.isOk_ok]

/-! ### The port of an error -/

/-- The numbers of the restated table of R151 are those of the errors. -/
theorem code_of_mem_errorTable : ∀ row ∈ errorTable, row.1.code = BitVec.ofNat 4 row.2 := by decide

/-- Settles O45: the port of an error is that of R162, with the number that the table lists. -/
theorem errorsDriveThePort : Obligations.ErrorsDriveThePort := by
  intro e c i hmem
  have hcode : e.code = BitVec.ofNat 4 c := code_of_mem_errorTable (e, c) hmem
  rw [Result.port, hcode]

end Sys2Proof.Machine

namespace Sys2Proof.Machine

/-! ### A System Exclusive message with no terminator (R187) -/

theorem takeUntilEox_nil (taken : List Byte) : takeUntilEox taken [] = .incomplete taken := by
  rw [takeUntilEox]

/-- Settles O53: the host takes the body byte by byte, as before a terminator, and then finds the sequence at its end. -/
theorem exclusiveMessagesWithoutTerminatorStayOpen : Obligations.ExclusiveMessagesWithoutTerminatorStayOpen := by
  intro p body hdata
  have htaken : takeUntilEox [0xF0#8] body = .incomplete (0xF0#8 :: body) := by
    simpa only [List.append_nil, takeUntilEox_nil, List.singleton_append] using
      takeUntilEox_append [0xF0#8] body [] hdata
  rw [assembleMessage_of_untilEox (m1Ndb_exclusive p rfl), htaken]

end Sys2Proof.Machine
